-- ==== Sys2Proof/Word.lean ====
section
/-! DEFINITION. The word types of AutosarE2E CORE. All values are unsigned (00_scope.md R10) and bit 0 is
the least significant bit of any value (R8), which is BitVec's own numbering. -/

namespace Sys2Proof

/-- A frame byte, a table entry, the running register of a checksum (R6 `CRC_WIDTH`). -/
abbrev Byte := BitVec 8

/-- A sequence counter or an identifier nibble (R6 `CTR_WIDTH`). -/
abbrev Nibble := BitVec 4

/-- A 32-bit register or command word (R7, 30_encoding.md R90). -/
abbrev Word := BitVec 32

end Sys2Proof
end

