-- ==== Sys2Proof/Syntax.lean ====
section
/-! DEFINITION. The seven commands of AutosarE2E CORE, one constructor per row of spec/opcode_table.json
(30_encoding.md R93). The operands a command word carries are its arguments (R92); every other operand of a
command is in a register or a buffer. -/

namespace Sys2Proof

/-- A command (R93, R95). The operand types are exactly the field widths of `CMD32` (R91): `A` is 8 bits and
`F` one bit, so there is no ill-formed command, only ill-formed command WORDS (see WellFormed.lean). -/
inductive Instr where
  /-- `GENTBL`: generate the lookup table (40_crc_engine.md R126). -/
  | gentbl
  /-- `TBLRD idx`: read one table entry (R127). -/
  | tblrd (idx : Byte)
  /-- `CRC8 start, first`: checksum of the input buffer (R128). -/
  | crc8 (start : Byte) (first : Bool)
  /-- `CONFIG`: construct an engine from the staged configuration (41_config.md R152). -/
  | config
  /-- `PROTECT`: pack the integrity fields of a frame (42_protect.md R176). -/
  | protect
  /-- `PROTECT64`: the 64-bit-integer form of `PROTECT` (R178). -/
  | protect64
  /-- `CHECK`: check and classify a received frame (43_check.md R202). -/
  | check
  deriving DecidableEq, Repr

end Sys2Proof
end

