-- ==== Sys2Proof/WellFormed.lean ====
section
/-! DEFINITION. Which command words are well formed: the opcode map of 30_encoding.md R93, row by row, each
row a match and a mask over the whole 32-bit word. It is written apart from the decoder, which goes by the
fields of R91 and the cases of R94. -/

namespace Sys2Proof

/-- One row of the opcode map (R93): a word `w` selects the row when `w and mask = pattern`. -/
structure OpcodeRow where
  mnemonic : String
  pattern : Word
  mask : Word
  deriving DecidableEq, Repr

/-- `w and mask = match` (R93). -/
def OpcodeRow.selects (r : OpcodeRow) (w : Word) : Bool :=
  w &&& r.mask == r.pattern

/-- The opcode map, in the order of R93. -/
def opcodeMap : List OpcodeRow :=
  [ ⟨"GENTBL",    0x00000001, 0xFFFFFFFF⟩,
    ⟨"TBLRD",     0x00000002, 0xFFFF00FF⟩,
    ⟨"CRC8",      0x00000003, 0xFFFE00FF⟩,
    ⟨"CONFIG",    0x00000010, 0xFFFFFFFF⟩,
    ⟨"PROTECT",   0x00000011, 0xFFFFFFFF⟩,
    ⟨"PROTECT64", 0x00000012, 0xFFFFFFFF⟩,
    ⟨"CHECK",     0x00000013, 0xFFFFFFFF⟩ ]

/-- A command word is well formed when it matches a row; any other word is illegal (R94). -/
def wellFormedWord (w : Word) : Bool :=
  opcodeMap.any (·.selects w)

end Sys2Proof
end

