-- ==== Sys2Proof/Decode.lean ====
section
/-! DEFINITION. Decoding and encoding of command words (30_encoding.md R90 to R95). Decoding is total and a
function of the word alone (R95); a word that is none of the seven legal forms is rejected, by name. -/

namespace Sys2Proof

/-- `OPC = w[7:0]` (R91). -/
def fieldOpc (w : Word) : Byte := w.extractLsb' 0 8

/-- `A = w[15:8]` (R91, R92). -/
def fieldA (w : Word) : Byte := w.extractLsb' 8 8

/-- `F = w[16]`, 1 = true (R91, R92). -/
def fieldF (w : Word) : Bool := w.getLsbD 16

/-- `RSV = w[31:17]` (R91). -/
def fieldRsv (w : Word) : BitVec 15 := w.extractLsb' 17 15

/-- Why a word is illegal, one name per case of R94. The machine answers all four alike, with
`IllegalCommand`, and records no cause (60_exceptions.md R231, R233). -/
inductive IllegalWord where
  /-- `OPC` is not one of the seven opcodes. -/
  | unknownOpcode
  /-- `RSV != 0`. -/
  | reservedBits
  /-- `F = 1` with an opcode other than that of `CRC8`. -/
  | flagWithoutOperand
  /-- `A != 0` with an opcode that has no `A`. -/
  | byteWithoutOperand
  deriving DecidableEq, Repr

/-- The five opcodes whose word carries no operand (R93). -/
def plainOpcode (opc : Byte) : Option Instr :=
  if opc = 0x01 then some .gentbl
  else if opc = 0x10 then some .config
  else if opc = 0x11 then some .protect
  else if opc = 0x12 then some .protect64
  else if opc = 0x13 then some .check
  else none

/-- `decode(w)` (R95): one of the seven commands, or the case of R94 that makes the word illegal. -/
def decode (w : Word) : Except IllegalWord Instr :=
  if fieldRsv w ≠ 0 then .error .reservedBits
  else if fieldOpc w = 0x03 then .ok (.crc8 (fieldA w) (fieldF w))
  else if fieldOpc w = 0x02 then
    if fieldF w then .error .flagWithoutOperand else .ok (.tblrd (fieldA w))
  else
    match plainOpcode (fieldOpc w) with
    | none => .error .unknownOpcode
    | some i =>
      if fieldF w then .error .flagWithoutOperand
      else if fieldA w ≠ 0 then .error .byteWithoutOperand
      else .ok i

/-- `encode`, the inverse of `decode` on the seven legal forms, as R95 writes it. -/
def encode : Instr → Word
  | .gentbl => 0x00000001
  | .tblrd idx => 0x00000002 ||| idx.setWidth 32 <<< 8
  | .crc8 start first => 0x00000003 ||| start.setWidth 32 <<< 8 ||| (BitVec.ofBool first).setWidth 32 <<< 16
  | .config => 0x00000010
  | .protect => 0x00000011
  | .protect64 => 0x00000012
  | .check => 0x00000013

/-- What the decoder reads from an instruction of `nbits` bits given as the number `w`, numbered as
spec/opcode_table.json numbers them: the bits from `nbits` up are 0. A command is one 32-bit word (R90), so a
number that does not fit in 32 bits is none. -/
def decodeTableWord (nbits w : Nat) : Option Instr :=
  if w % 2 ^ nbits < 2 ^ 32 then
    match decode (BitVec.ofNat 32 (w % 2 ^ nbits)) with
    | .ok i => some i
    | .error _ => none
  else none

end Sys2Proof
end

