-- ==== Sys2Proof/Config.lean ====
section
/-! DEFINITION. What is fixed for one instance of the hardware (00_scope.md R6, R7; 10_state.md R34), the
protection configuration as a value (41_config.md R150), and the free values, each an opaque constant that no
proof can see into. -/

namespace Sys2Proof

/-- `identifierMode` (41_config.md R150), `BOTH` = 0 and `DATA_ID_NIBBLE` = 1 (10_state.md R28). -/
inductive IdMode where
  | both
  | dataIdNibble
  deriving DecidableEq, Repr, Inhabited

/-- The active configuration `ACT`, with the widths of 10_state.md R29. -/
structure ActConfig where
  /-- `ACT.id`, the 12-bit identifier. -/
  id : BitVec 12
  /-- `ACT.dataLen`, the frame length in bits. -/
  dataLen : BitVec 16
  /-- `ACT.mode`. -/
  mode : IdMode
  /-- `ACT.ctrOff`, the bit offset of the counter nibble. -/
  ctrOff : BitVec 16
  /-- `ACT.crcOff`, the bit offset of the CRC byte. -/
  crcOff : BitVec 16
  /-- `ACT.nibOff`, the bit offset of the identifier nibble; unused in mode `BOTH`. -/
  nibOff : BitVec 32
  /-- `ACT.maxDelta`, the largest tolerated counter gap. -/
  maxDelta : Nibble
  deriving DecidableEq, Repr, Inhabited

/-- The two frame buffers (20_memory.md R61). -/
inductive Buffer where
  | fin
  | fout
  deriving DecidableEq, Repr

/-- `POLY`, the generator polynomial with x^8 implicit (R6). -/
def Config.poly : Byte := 0x1D

/-- `P11_SEED`, the seed of the Profile-11 checksum (R6; 90_conflicts.md C1). A named constant, so that a
ruling on C1 changes it in one place (92_eei_decisions.md D23). Log 10. -/
def Config.p11Seed : Byte := 0xFF

/-- `P11_XOROUT`, the final complement of the Profile-11 checksum (R6; 90_conflicts.md C1, D23). Log 10. -/
def Config.p11XorOut : Byte := 0xFF

/-- The open part of `FRAME_MAX`: how many bytes a frame buffer holds beyond 8 (R7, D5). FREE, log 8. -/
opaque Config.frameSpare : Fin 4089

/-- `FRAME_MAX`, the capacity of each frame buffer in bytes: open, with `8 <= FRAME_MAX <= 4096` (R7). -/
def Config.frameMax : Nat := Config.frameSpare.val + 8

/-- What byte `i` of a frame buffer holds after reset number `k`, until it is written: one free byte each,
fixed at reset (10_state.md R35; 93_implementation_defined.md U8). FREE, log 5. -/
opaque Config.bufferDraw : Buffer → Nat → Nat → Byte

/-- What `TBL` holds after reset number `k`, until `GENTBL` (R30, R35; U9). FREE, log 6. -/
opaque Config.tblDraw : Nat → Vector Byte 256

/-- What `ACT` holds after reset number `k`, until a `CONFIG` that ends `done` (R29, R35; U9). FREE, log 7. -/
opaque Config.actDraw : Nat → ActConfig

/-- What a read of a frame at an index outside the frame gives. No reachable state reads one
(42_protect.md R173 asks for a configuration that 41_config.md R153 accepts). FREE, log 11. -/
opaque Config.beyondFrame : Nat → Byte

end Sys2Proof
end

