-- ==== Sys2Proof/Machine/State.lean ====
section
/-! DEFINITION. The state of AutosarE2E CORE: everything 10_state.md R20 lists, as plain data, and beside it
the host's stream of inputs, the last bus response and the number of resets (the model's own fields, log 1 and
log 4). State.reset is the state of R35. -/

namespace Sys2Proof.Machine

/-- A byte memory: (index, byte) pairs with strictly rising indexes, none equal to what an unlisted index
reads as (Ops.lean: `Memory.wf`). -/
abbrev Memory := List Host.Cell

/-- One host access (20_memory.md R60): a width in bytes other than 1 and 4 can be asked for and is refused
(R66). Addresses are offsets from `BASE` (R62; log 9). -/
inductive Access where
  /-- `MemRead(addr, n)`. -/
  | read (addr n : Nat)
  /-- `MemWrite(addr, n, v)`; of `v` the low `8 n` bits are the value written. -/
  | write (addr n : Nat) (v : Word)
  deriving DecidableEq, Repr

/-- What can reach the block from outside. -/
inductive HostEvent where
  /-- One access of the host (R60). -/
  | access (a : Access)
  /-- The reset input (70_reset_and_hazards.md R260). -/
  | reset
  /-- Two accesses at once, which the host must never issue (20_memory.md R76, 70 R271, R274) and for which
  no step exists (93_implementation_defined.md U5). -/
  | simultaneous (a b : Access)
  deriving DecidableEq, Repr

/-- What the host gets back from an access (R60, R66; 70 R274). -/
inductive Response where
  /-- No access since reset. -/
  | none
  /-- A byte of a buffer (R64). -/
  | byte (b : Byte)
  /-- A register (R63). -/
  | word (w : Word)
  /-- The write was performed. -/
  | written
  /-- The access was refused (R66). -/
  | busError
  deriving DecidableEq, Repr

/-- The outcome of the last command as `ERR` names it (60_exceptions.md R231): `NONE` and the nine hard
failures. Codes 10 to 15 are never produced (93 U16). -/
inductive ErrCode where
  | noError
  | illegalCommand
  | noTable
  | noConfig
  | length
  | cfgDataLen
  | cfgRange
  | cfgCrcAlign
  | cfgBounds
  | cfgCtrBit
  deriving DecidableEq, Repr

/-- The status of a `CHECK` as `RESULT` names it (10_state.md R26), the two reserved names among them
(93 U4). -/
inductive CheckStatus where
  | noNewData
  | error
  | wrongSeq
  | wrongInput
  | repeated
  | okSomeLost
  | ok
  deriving DecidableEq, Repr

/-- The seven staging registers (R28), every bit stored. -/
structure Staging where
  /-- `CFG_ID`. -/
  id : Word
  /-- `CFG_DATALEN`. -/
  dataLen : Word
  /-- `CFG_MODE`. -/
  mode : Word
  /-- `CFG_CTROFF`. -/
  ctrOff : Word
  /-- `CFG_CRCOFF`. -/
  crcOff : Word
  /-- `CFG_NIBOFF`. -/
  nibOff : Word
  /-- `CFG_MAXDELTA`. -/
  maxDelta : Word
  deriving DecidableEq, Repr

/-- The architectural state (R20), and the model's own fields at the end. -/
structure State where
  /-- `TBL[0..255]` (R30). -/
  tbl : Vector Byte 256
  /-- `TBL_VALID`, `STATUS[0]` (R24). -/
  tblValid : Bool
  /-- The staging configuration (R28). -/
  cfg : Staging
  /-- `ACT` (R29). -/
  act : ActConfig
  /-- `CFG_VALID`, `STATUS[1]` (R24). -/
  cfgValid : Bool
  /-- `CTR[3:0]` (R23). -/
  ctr : Nibble
  /-- `FIN` (R31), by frame byte index. -/
  fin : Memory
  /-- `FIN_LEN` (R21). -/
  finLen : Word
  /-- `FOUT` (R32), by frame byte index. -/
  fout : Memory
  /-- `FOUT_LEN` (R21). -/
  foutLen : Word
  /-- `V64_IN_LO` (R21). -/
  v64InLo : Word
  /-- `V64_IN_HI` (R21). -/
  v64InHi : Word
  /-- `V64_OUT_LO` (R21). -/
  v64OutLo : Word
  /-- `V64_OUT_HI` (R21). -/
  v64OutHi : Word
  /-- `DOUT[7:0]` (R21). -/
  dout : Byte
  /-- `RESULT[2:0]` (R26). -/
  result : CheckStatus
  /-- `RES_VALID`, `STATUS[2]` (R24). -/
  resValid : Bool
  /-- `ERR[3:0]` (R25). -/
  err : ErrCode
  /-- The model's own: the host's events not yet taken, in the order the host issues them (20_memory.md R73). Log 1. -/
  script : List HostEvent
  /-- The model's own: what the host got back from its last access. Log 1. -/
  resp : Response
  /-- The model's own: the number of reset events taken, which picks the bytes that reset leaves open. Log 4. -/
  resets : Nat
  deriving DecidableEq, Repr

/-- Why the machine stops. A failed command is not among these: it is a next state with its code in `ERR`
(60_exceptions.md R232), and so is a refused access (20_memory.md R66). -/
inductive Fault where
  /-- Raised by the host port for two accesses at once. SAFE: the spec has no step there (93 U5), and a real
  block may go on in either order. Log 3. -/
  | dataRace
  deriving DecidableEq, Repr

/-- Why an instruction has no meaning. -/
inductive Refusal where
  /-- Only an arm of `exec` may answer with it. SAFE. No arm does: all seven commands are modelled. -/
  | notModelled (mnemonic : String)
  deriving DecidableEq, Repr

/-- The state after reset number `k` (10_state.md R35, 70_reset_and_hazards.md R260), with what the host still
has to issue. What R35 leaves unspecified is free: `TBL`, `ACT`, and every byte of the two buffers, of which
none is listed. -/
def State.afterReset (k : Nat) (script : List HostEvent) : State where
  tbl := Config.tblDraw k
  tblValid := false
  cfg := ⟨0, 0, 0, 0, 0, 0, 0⟩
  act := Config.actDraw k
  cfgValid := false
  ctr := 0
  fin := []
  finLen := 0
  fout := []
  foutLen := 0
  v64InLo := 0
  v64InHi := 0
  v64OutLo := 0
  v64OutHi := 0
  dout := 0
  result := .noNewData
  resValid := false
  err := .noError
  script := script
  resp := .none
  resets := k

/-- The machine right after reset, with no host access pending (log 2). -/
def State.reset : State := State.afterReset 0 []

end Sys2Proof.Machine
end

