-- ==== Sys2Proof/Machine/Ops.lean ====
section
/-! DEFINITION. The named operations over memories and registers that the command meanings share, and the one
operation by which a command fails (60_exceptions.md R232). -/

namespace Sys2Proof.Machine

/-- `m[a]`; a byte that is not listed reads as `dflt a`. -/
def Memory.read (dflt : Nat → Byte) : Memory → Nat → Byte
  | [], a => dflt a
  | c :: m, a => if c.1 = a then c.2 else Memory.read dflt m a

/-- `m[a] <- b`, keeping the canonical form: a byte that reads as an unlisted one does is not listed. -/
def Memory.write (dflt : Nat → Byte) : Memory → Nat → Byte → Memory
  | [], a, b => if b = dflt a then [] else [(a, b)]
  | c :: m, a, b =>
    if c.1 < a then c :: Memory.write dflt m a b
    else if b = dflt a then (if c.1 = a then m else c :: m)
    else if c.1 = a then (a, b) :: m
    else (a, b) :: c :: m

/-- `m[a] <- B[0]`, `m[a+1] <- B[1]`, … -/
def Memory.writeFrom (dflt : Nat → Byte) (m : Memory) (a : Nat) : List Byte → Memory
  | [] => m
  | b :: bs => Memory.writeFrom dflt (Memory.write dflt m a b) (a + 1) bs

/-- The canonical form: strictly rising indexes, no entry equal to what an unlisted index reads as. -/
abbrev Memory.wf (dflt : Nat → Byte) (m : Memory) : Prop :=
  m.Pairwise (fun c d => c.1 < d.1) ∧ ∀ c ∈ m, c.2 ≠ dflt c.1

/-- What the bytes of `FIN` that nothing has written since the last reset hold (10_state.md R35). -/
def State.finDraw (s : State) : Nat → Byte := Config.bufferDraw .fin s.resets

/-- What the bytes of `FOUT` that nothing has written since the last reset hold (R35). -/
def State.foutDraw (s : State) : Nat → Byte := Config.bufferDraw .fout s.resets

/-- `FIN[i]` (R31). -/
def State.finByte (s : State) (i : Nat) : Byte := s.fin.read s.finDraw i

/-- `FOUT[i]` (R32). -/
def State.foutByte (s : State) (i : Nat) : Byte := s.fout.read s.foutDraw i

/-- `FIN[0 .. n-1]`. -/
def State.finFrame (s : State) (n : Nat) : List Byte := (List.range n).map s.finByte

/-- `FIN[i] <- b` (20_memory.md R64). -/
def State.putFin (s : State) (i : Nat) (b : Byte) : State :=
  { s with fin := s.fin.write s.finDraw i b }

/-- `FOUT[i] <- B[i]` for every `i < len(B)` (42_protect.md R176, R178). -/
def State.putFout (s : State) (out : List Byte) : State :=
  { s with fout := s.fout.writeFrom s.foutDraw 0 out }

/-- `raise <Error>` (60_exceptions.md R232): `ERR` takes the code and no other element changes. -/
def State.raise (s : State) (e : ErrCode) : State := { s with err := e }

/-- The end of a command that ends `done`: `ERR <- 0` (10_state.md R25). -/
def State.done (s : State) : State := { s with err := .noError }

/-- `DOUT <- b` (R21). -/
def State.setDout (s : State) (b : Byte) : State := { s with dout := b }

/-- `TBL` and `TBL_VALID <- 1` (40_crc_engine.md R126). -/
def State.setTable (s : State) (t : Vector Byte 256) : State := { s with tbl := t, tblValid := true }

/-- The latching of `ACT` with `CTR <- 0` and `CFG_VALID <- 1` (41_config.md R152). -/
def State.latch (s : State) (c : ActConfig) : State := { s with act := c, ctr := 0, cfgValid := true }

/-- `FOUT_LEN <- n` (42_protect.md R176, R178). -/
def State.setFoutLen (s : State) (n : Nat) : State := { s with foutLen := BitVec.ofNat 32 n }

/-- `CTR <- (CTR + 1) mod 16` (R176). -/
def State.advanceCtr (s : State) : State := { s with ctr := s.ctr + 1 }

/-- `CTR <- c` (43_check.md R207). -/
def State.setCtr (s : State) (c : Nibble) : State := { s with ctr := c }

/-- `V64_OUT <- v` (42_protect.md R178). -/
def State.setV64Out (s : State) (v : BitVec 64) : State :=
  { s with v64OutLo := v.extractLsb' 0 32, v64OutHi := v.extractLsb' 32 32 }

/-- `RESULT <- st`, `RES_VALID <- 1` (43_check.md R202). -/
def State.report (s : State) (st : CheckStatus) : State := { s with result := st, resValid := true }

/-- `FIN_LEN <- v`, a host write (10_state.md R21). -/
def State.setFinLen (s : State) (v : Word) : State := { s with finLen := v }

/-- The staging registers are `c`, after a host write (10_state.md R28). -/
def State.setStaging (s : State) (c : Staging) : State := { s with cfg := c }

/-- `V64_IN_LO <- v`, a host write (R21). -/
def State.setV64InLo (s : State) (v : Word) : State := { s with v64InLo := v }

/-- `V64_IN_HI <- v`, a host write (R21). -/
def State.setV64InHi (s : State) (v : Word) : State := { s with v64InHi := v }

/-- The bus response the host gets (20_memory.md R60, R66). -/
def State.answer (s : State) (r : Response) : State := { s with resp := r }

/-- The host's stream from here on is `es`. -/
def State.setScript (s : State) (es : List HostEvent) : State := { s with script := es }

end Sys2Proof.Machine
end

