-- ==== Sys2Proof/Machine/Operands.lean ====
section
/-! DEFINITION. The operand forms of AutosarE2E CORE: the bytes and nibbles of a frame, the derived names of
`ACT`, the 64-bit form of a frame, and the named registers of the address map with their offsets. -/

namespace Sys2Proof.Machine

/-- Byte `i` of a frame (00_scope.md R9); outside the frame a free value (log 11). -/
def byteAt (f : List Byte) (i : Nat) : Byte := f.getD i (Config.beyondFrame i)

/-- `nib_put(b, s, v)` (42_protect.md R170): clear the field's bits inside this byte, then OR the nibble in;
for a shift above 4 only the part that fits in the byte is written. -/
def nibPut (b : Byte) (s : Nat) (v : Nibble) : Byte :=
  (b &&& ~~~(0x0F#8 <<< s)) ||| (v.setWidth 8 <<< s)

/-- `nib_get(b, s) = trunc_4(b >> s)` (R171). -/
def nibGet (b : Byte) (s : Nat) : Nibble := (b >>> s).setWidth 4

/-- A frame bit offset names byte index `off >> 3` (00_scope.md R9). -/
def byteIndex (off : Nat) : Nat := off / 8

/-- A frame bit offset has shift `off & 7` (R9). -/
def bitShift (off : Nat) : Nat := off % 8

/-- `ACT.n` (10_state.md R29), the frame length in bytes. -/
def actN (c : ActConfig) : Nat := c.dataLen.toNat / 8

/-- `ACT.ctrByte` (R29). -/
def actCtrByte (c : ActConfig) : Nat := byteIndex c.ctrOff.toNat

/-- `ACT.ctrSh` (R29). -/
def actCtrSh (c : ActConfig) : Nat := bitShift c.ctrOff.toNat

/-- `ACT.crcByte` (R29). -/
def actCrcByte (c : ActConfig) : Nat := byteIndex c.crcOff.toNat

/-- `ACT.nibByte` (R29). -/
def actNibByte (c : ActConfig) : Nat := byteIndex c.nibOff.toNat

/-- `ACT.nibSh` (R29). -/
def actNibSh (c : ActConfig) : Nat := bitShift c.nibOff.toNat

/-- `ACT.idLo = ACT.id[7:0]` (R29). -/
def actIdLo (c : ActConfig) : Byte := c.id.extractLsb' 0 8

/-- The identifier nibble `ACT.id[11:8]` (00_scope.md R14). -/
def actIdNib (c : ActConfig) : Nibble := c.id.extractLsb' 8 4

/-- `ACT.idHi = zext_8(ACT.id[11:8])` (10_state.md R29). -/
def actIdHi (c : ActConfig) : Byte := (actIdNib c).setWidth 8

/-- `bytes_le(V)`: `B[k] = V[8k+7:8k]` (42_protect.md R177, 20_memory.md R69). -/
def bytesLe (v : BitVec 64) : List Byte := (List.range 8).map fun k => v.extractLsb' (8 * k) 8

/-- `int_le(B)`: `V[8k+7:8k] = B[k]` (R177). -/
def intLe (bs : List Byte) : BitVec 64 :=
  bs.foldr (fun b acc => acc <<< 8 ||| b.setWidth 64) 0

/-- `V64_IN = V64_IN_HI ++ V64_IN_LO` (R69). -/
def State.v64In (s : State) : BitVec 64 := s.v64InHi ++ s.v64InLo

/-- The registers of the address map (20_memory.md R62). -/
inductive Reg where
  | cmd
  | status
  | err
  | ctr
  | result
  | dout
  | finLen
  | foutLen
  | cfgId
  | cfgDataLen
  | cfgMode
  | cfgCtrOff
  | cfgCrcOff
  | cfgNibOff
  | cfgMaxDelta
  | v64InLo
  | v64InHi
  | v64OutLo
  | v64OutHi
  deriving DecidableEq, Repr

/-- The offset of a register from `BASE` (R62). -/
def regOffset : Reg → Nat
  | .cmd => 0x000
  | .status => 0x004
  | .err => 0x008
  | .ctr => 0x00C
  | .result => 0x010
  | .dout => 0x014
  | .finLen => 0x018
  | .foutLen => 0x01C
  | .cfgId => 0x020
  | .cfgDataLen => 0x024
  | .cfgMode => 0x028
  | .cfgCtrOff => 0x02C
  | .cfgCrcOff => 0x030
  | .cfgNibOff => 0x034
  | .cfgMaxDelta => 0x038
  | .v64InLo => 0x040
  | .v64InHi => 0x044
  | .v64OutLo => 0x048
  | .v64OutHi => 0x04C

/-- The register at an offset, `none` where the map of R62 has none (0x03C among them). -/
def regAt : Nat → Option Reg
  | 0x000 => some .cmd
  | 0x004 => some .status
  | 0x008 => some .err
  | 0x00C => some .ctr
  | 0x010 => some .result
  | 0x014 => some .dout
  | 0x018 => some .finLen
  | 0x01C => some .foutLen
  | 0x020 => some .cfgId
  | 0x024 => some .cfgDataLen
  | 0x028 => some .cfgMode
  | 0x02C => some .cfgCtrOff
  | 0x030 => some .cfgCrcOff
  | 0x034 => some .cfgNibOff
  | 0x038 => some .cfgMaxDelta
  | 0x040 => some .v64InLo
  | 0x044 => some .v64InHi
  | 0x048 => some .v64OutLo
  | 0x04C => some .v64OutHi
  | _ => none

end Sys2Proof.Machine
end

