-- ==== Sys2Proof/Machine/CrcEngine.lean ====
section
/-! DEFINITION. The CRC engine: the table as a function, the step and the run, and the commands GENTBL, TBLRD
and CRC8 (40_crc_engine.md). -/

namespace Sys2Proof.Machine

/-- One of the 8 iterations of R121: the bit about to be shifted out decides whether the polynomial is
XORed in (90_conflicts.md C7). -/
def crcShift (r : Byte) : Byte :=
  if r.getLsbD 7 then r <<< 1 ^^^ Config.poly else r <<< 1

/-- `table(b)` (R121), the CRC-8 remainder of the single byte `b`. -/
def tableEntry (b : Byte) : Byte := Nat.repeat crcShift 8 b

/-- The whole table: entry `i` is `table(i)` (R121, R126). -/
@[irreducible] def crcTable : Vector Byte 256 := Vector.ofFn fun i => tableEntry (BitVec.ofNat 8 i)

/-- `crc_step(r, b) = TBL[r xor b]` (R123). -/
def crcStep (tbl : Vector Byte 256) (r b : Byte) : Byte := tbl[(r ^^^ b).toNat]'(r ^^^ b).isLt

/-- `crc_run(r, D)` (R124): the raw running register after the bytes of `D`, left to right. -/
def crcRun (tbl : Vector Byte 256) (r : Byte) (bs : List Byte) : Byte := bs.foldl (crcStep tbl) r

/-- `GENTBL` (R126). -/
def execGentbl (s : State) : Host.Outcome State Fault Refusal :=
  .next (s.setTable crcTable).done

/-- `TBLRD idx` (R127). -/
def execTblrd (idx : Byte) (s : State) : Host.Outcome State Fault Refusal :=
  if s.tblValid = false then .next (s.raise .noTable)
  else .next (s.setDout (s.tbl[idx.toNat]'idx.isLt)).done

/-- `CRC8 start, first` (R128). The flag names the usage mode and changes no result (R130); the result is the
raw register, the complement being the user's (R129). -/
def execCrc8 (start : Byte) (_first : Bool) (s : State) : Host.Outcome State Fault Refusal :=
  if s.tblValid = false then .next (s.raise .noTable)
  else if Config.frameMax < s.finLen.toNat then .next (s.raise .length)
  else .next (s.setDout (crcRun s.tbl start (s.finFrame s.finLen.toNat))).done

end Sys2Proof.Machine
end

