-- ==== Sys2Proof/Machine/Protect.lean ====
section
/-! DEFINITION. The frame integrity field packer: the frame transform that PROTECT and CHECK share, and the
commands PROTECT and PROTECT64 (42_protect.md). -/

namespace Sys2Proof.Machine

/-- The two identifier bytes that enter the checksum (R174, 20_memory.md R70): the low byte, then the high
byte in mode `BOTH` and a constant zero byte in mode `DATA_ID_NIBBLE`. -/
def idBytes (c : ActConfig) : List Byte :=
  match c.mode with
  | .both => [actIdLo c, actIdHi c]
  | .dataIdNibble => [actIdLo c, 0x00]

/-- `p11_crc(cfg, out)` (R174), step 4 of `protect`: seeded with `P11_SEED`, over the identifier bytes and
every byte of the frame but the CRC byte, complemented once at the end. -/
def p11Crc (tbl : Vector Byte 256) (c : ActConfig) (out : List Byte) : Byte :=
  crcRun tbl (crcRun tbl Config.p11Seed (idBytes c)) (out.eraseIdx (actCrcByte c)) ^^^ Config.p11XorOut

/-- Step 2 of `protect` (R173): the identifier nibble, in mode `DATA_ID_NIBBLE` only. -/
def putIdNibble (c : ActConfig) (out : List Byte) : List Byte :=
  match c.mode with
  | .both => out
  | .dataIdNibble => out.set (actNibByte c) (nibPut (byteAt out (actNibByte c)) (actNibSh c) (actIdNib c))

/-- Step 3 of `protect` (R173): the counter nibble. -/
def putCounter (c : ActConfig) (out : List Byte) (ctr : Nibble) : List Byte :=
  out.set (actCtrByte c) (nibPut (byteAt out (actCtrByte c)) (actCtrSh c) ctr)

/-- Step 5 of `protect` (R173), with the checksum of step 4. -/
def putCrc (tbl : Vector Byte 256) (c : ActConfig) (out : List Byte) : List Byte :=
  out.set (actCrcByte c) (p11Crc tbl c out)

/-- `p11_frame(cfg, in, c)` (R173): the steps in sequence. -/
def p11Frame (tbl : Vector Byte 256) (c : ActConfig) (inp : List Byte) (ctr : Nibble) : List Byte :=
  putCrc tbl c (putCounter c (putIdNibble c inp) ctr)

/-- What `PROTECT` and `PROTECT64` do with the protected frame (R176, R178): `FOUT`, `FOUT_LEN`, `CTR`. -/
def State.emitFrame (s : State) (out : List Byte) (n : Nat) : State :=
  ((s.putFout out).setFoutLen n).advanceCtr

/-- `PROTECT` (R176). -/
def execProtect (s : State) : Host.Outcome State Fault Refusal :=
  if s.tblValid = false then .next (s.raise .noTable)
  else if s.cfgValid = false then .next (s.raise .noConfig)
  else if s.finLen.toNat ≠ actN s.act then .next (s.raise .length)
  else .next (s.emitFrame (p11Frame s.tbl s.act (s.finFrame (actN s.act)) s.ctr) (actN s.act)).done

/-- `PROTECT64` (R178). -/
def execProtect64 (s : State) : Host.Outcome State Fault Refusal :=
  if s.tblValid = false then .next (s.raise .noTable)
  else if s.cfgValid = false then .next (s.raise .noConfig)
  else if s.act.dataLen ≠ 64 then .next (s.raise .length)
  else
    let out := p11Frame s.tbl s.act (bytesLe s.v64In) s.ctr
    .next ((s.emitFrame out 8).setV64Out (intLe out)).done

end Sys2Proof.Machine
end

