-- ==== Sys2Proof/Machine/Check.lean ====
section
/-! DEFINITION. The frame integrity field checker and freshness classifier: the command CHECK (43_check.md). -/

namespace Sys2Proof.Machine

/-- The received counter `rc` (R202): the nibble at `counterOffset`. -/
def rxCounter (c : ActConfig) (rx : List Byte) : Nibble := nibGet (byteAt rx (actCtrByte c)) (actCtrSh c)

/-- `crc_ok` (R204): the received CRC byte is that of the expected frame. -/
def crcOk (c : ActConfig) (expd rx : List Byte) : Bool :=
  byteAt expd (actCrcByte c) == byteAt rx (actCrcByte c)

/-- `id_ok` (R204): in mode `DATA_ID_NIBBLE` the identifier nibbles of the two frames agree. -/
def idOk (c : ActConfig) (expd rx : List Byte) : Bool :=
  match c.mode with
  | .both => true
  | .dataIdNibble =>
    nibGet (byteAt expd (actNibByte c)) (actNibSh c) == nibGet (byteAt rx (actNibByte c)) (actNibSh c)

/-- `classify` (R206), first match wins. -/
def classify (crcGood idGood : Bool) (delta maxDelta : Nibble) : CheckStatus :=
  if crcGood = false ∨ idGood = false then .error
  else if maxDelta < delta then .error
  else if delta = 0 then .repeated
  else if delta = 1 then .ok
  else .okSomeLost

/-- Acceptance (00_scope.md R14): a status of `OK` or `OK_SOME_LOST`. -/
def accepted (st : CheckStatus) : Bool := st == .ok || st == .okSomeLost

/-- The status of a received frame of the right length (R202): the expected frame carries the RECEIVED
counter (R201), and the counter is judged by its distance `delta = (rc - CTR) mod 16` (R205). -/
def frameStatus (tbl : Vector Byte 256) (c : ActConfig) (ctr : Nibble) (rx : List Byte) : CheckStatus :=
  let rc := rxCounter c rx
  let expd := p11Frame tbl c rx rc
  classify (crcOk c expd rx) (idOk c expd rx) (rc - ctr) c.maxDelta

/-- The counter update (R207): moved to the received counter on acceptance, held otherwise. -/
def State.resync (s : State) (st : CheckStatus) (rc : Nibble) : State :=
  if accepted st then s.setCtr rc else s

/-- `CHECK` (R202, R203, R207). -/
def execCheck (s : State) : Host.Outcome State Fault Refusal :=
  if s.tblValid = false then .next (s.raise .noTable)
  else if s.cfgValid = false then .next (s.raise .noConfig)
  else if s.finLen.toNat ≠ actN s.act then .next (s.report .wrongInput).done
  else
    let rx := s.finFrame (actN s.act)
    let st := frameStatus s.tbl s.act s.ctr rx
    .next ((s.report st).resync st (rxCounter s.act rx)).done

end Sys2Proof.Machine
end

