-- ==== Sys2Proof/Machine/Construct.lean ====
section
/-! DEFINITION. Engine construction: the validation of the staged configuration and the command CONFIG
(41_config.md). -/

namespace Sys2Proof.Machine

/-- `validate()` (R153): the first failure of the staged values, for buffers of `frameMax` bytes; `none` where
the configuration is accepted. -/
def validate (frameMax : Nat) (c : Staging) : Option ErrCode :=
  let n := c.dataLen.toNat / 8
  if c.dataLen.toNat % 8 ≠ 0 ∨ c.dataLen = 0 ∨ frameMax < n then some .cfgDataLen
  else if 1 < c.mode.toNat ∨ 14 < c.maxDelta.toNat then some .cfgRange
  else if c.crcOff.toNat % 8 ≠ 0 then some .cfgCrcAlign
  else if n ≤ c.crcOff.toNat / 8 ∨ n ≤ c.ctrOff.toNat / 8 ∨ (c.mode = 1 ∧ n ≤ c.nibOff.toNat / 8) then
    some .cfgBounds
  else if 4 < c.ctrOff.toNat % 8 then some .cfgCtrBit
  else none

/-- `identifierMode` from `CFG_MODE[0]` (10_state.md R28, R29). -/
def idModeOfBit (b : Bool) : IdMode := if b then .dataIdNibble else .both

/-- The copy `CONFIG` latches into `ACT` (41_config.md R152, 10_state.md R29): the identifier masked to 12
bits, the other fields cut to widths that the validation has made wide enough. -/
def latched (c : Staging) : ActConfig where
  id := c.id.extractLsb' 0 12
  dataLen := c.dataLen.extractLsb' 0 16
  mode := idModeOfBit (c.mode.getLsbD 0)
  ctrOff := c.ctrOff.extractLsb' 0 16
  crcOff := c.crcOff.extractLsb' 0 16
  nibOff := c.nibOff
  maxDelta := c.maxDelta.extractLsb' 0 4

/-- `CONFIG` (R152). -/
def execConfig (s : State) : Host.Outcome State Fault Refusal :=
  match validate Config.frameMax s.cfg with
  | some e => .next (s.raise e)
  | none => .next (s.latch (latched s.cfg)).done

end Sys2Proof.Machine
end

