-- ==== Sys2Proof/Machine/Dispatch.lean ====
section
/-! DEFINITION. One arm per command (30_encoding.md R93). -/

namespace Sys2Proof.Machine

def exec (i : Instr) (s : State) : Host.Outcome State Fault Refusal :=
  match i with
  | .gentbl => Sys2Proof.Machine.execGentbl s
  | .tblrd idx => Sys2Proof.Machine.execTblrd idx s
  | .crc8 start first => Sys2Proof.Machine.execCrc8 start first s
  | .config => Sys2Proof.Machine.execConfig s
  | .protect => Sys2Proof.Machine.execProtect s
  | .protect64 => Sys2Proof.Machine.execProtect64 s
  | .check => Sys2Proof.Machine.execCheck s

end Sys2Proof.Machine
end

