-- ==== Sys2Proof/Machine/Flags.lean ====
section
/-! DEFINITION. The flags and codes the host reads: `STATUS`, `ERR`, `RESULT`, and the value of every
readable register (10_state.md R24 to R26, 20_memory.md R62, R63). There are no arithmetic condition codes
(R24). -/

namespace Sys2Proof.Machine

/-- The code of `ERR[3:0]` (60_exceptions.md R231). -/
def errCode : ErrCode → BitVec 4
  | .noError => 0
  | .illegalCommand => 1
  | .noTable => 2
  | .noConfig => 3
  | .length => 4
  | .cfgDataLen => 5
  | .cfgRange => 6
  | .cfgCrcAlign => 7
  | .cfgBounds => 8
  | .cfgCtrBit => 9

/-- The code of `RESULT[2:0]` (10_state.md R26). -/
def statusCode : CheckStatus → BitVec 3
  | .noNewData => 0
  | .error => 1
  | .wrongSeq => 2
  | .wrongInput => 3
  | .repeated => 4
  | .okSomeLost => 5
  | .ok => 6

/-- `STATUS[31:0]`: bit 0 `TBL_VALID`, bit 1 `CFG_VALID`, bit 2 `RES_VALID`, the rest 0 (R24). -/
def State.statusWord (s : State) : Word :=
  (BitVec.ofBool s.resValid ++ BitVec.ofBool s.cfgValid ++ BitVec.ofBool s.tblValid).setWidth 32

/-- What a read of a register returns, `none` for the write-only `CMD`; a bit the map does not list as used
reads as 0 (20_memory.md R62, R63). -/
def State.regValue (s : State) : Reg → Option Word
  | .cmd => none
  | .status => some s.statusWord
  | .err => some ((errCode s.err).setWidth 32)
  | .ctr => some (s.ctr.setWidth 32)
  | .result => some ((statusCode s.result).setWidth 32)
  | .dout => some (s.dout.setWidth 32)
  | .finLen => some s.finLen
  | .foutLen => some s.foutLen
  | .cfgId => some s.cfg.id
  | .cfgDataLen => some s.cfg.dataLen
  | .cfgMode => some s.cfg.mode
  | .cfgCtrOff => some s.cfg.ctrOff
  | .cfgCrcOff => some s.cfg.crcOff
  | .cfgNibOff => some s.cfg.nibOff
  | .cfgMaxDelta => some s.cfg.maxDelta
  | .v64InLo => some s.v64InLo
  | .v64InHi => some s.v64InHi
  | .v64OutLo => some s.v64OutLo
  | .v64OutHi => some s.v64OutHi

/-- A write of a host read-write register stores all 32 bits (R63); `none` for the read-only ones and for
`CMD`, which stores nothing (10_state.md R27). -/
def State.storeReg (s : State) (v : Word) : Reg → Option State
  | .finLen => some (s.setFinLen v)
  | .cfgId => some (s.setStaging { s.cfg with id := v })
  | .cfgDataLen => some (s.setStaging { s.cfg with dataLen := v })
  | .cfgMode => some (s.setStaging { s.cfg with mode := v })
  | .cfgCtrOff => some (s.setStaging { s.cfg with ctrOff := v })
  | .cfgCrcOff => some (s.setStaging { s.cfg with crcOff := v })
  | .cfgNibOff => some (s.setStaging { s.cfg with nibOff := v })
  | .cfgMaxDelta => some (s.setStaging { s.cfg with maxDelta := v })
  | .v64InLo => some (s.setV64InLo v)
  | .v64InHi => some (s.setV64InHi v)
  | .cmd => none
  | .status => none
  | .err => none
  | .ctr => none
  | .result => none
  | .dout => none
  | .foutLen => none
  | .v64OutLo => none
  | .v64OutHi => none

end Sys2Proof.Machine
end

