-- ==== Sys2Proof/Machine/HostPort.lean ====
section
/-! DEFINITION. The host port (20_memory.md R60 to R66): what one host access does, the execution of a command
word written to `CMD`, and what the block does with the next event of the host's stream. -/

namespace Sys2Proof.Machine

/-- What an access names (20_memory.md R61). -/
inductive Location where
  | reg (r : Reg)
  | fin (i : Nat)
  | fout (i : Nat)
  deriving DecidableEq, Repr

/-- What an access of width `n` at offset `addr` names, for buffers of `frameMax` bytes: a register only with
`n = 4` at its own offset (R63), a buffer byte only with `n = 1` (R64), and nothing otherwise (R66). -/
def locate (frameMax addr n : Nat) : Option Location :=
  if n = 4 then (regAt addr).map .reg
  else if n = 1 then
    if 0x1000 ≤ addr ∧ addr < 0x1000 + frameMax then some (.fin (addr - 0x1000))
    else if 0x2000 ≤ addr ∧ addr < 0x2000 + frameMax then some (.fout (addr - 0x2000))
    else none
  else none

/-- The response to `MemRead(addr, n)` (R63, R64, R66). -/
def State.portRead (s : State) (addr n : Nat) : Response :=
  match locate Config.frameMax addr n with
  | some (.reg r) =>
    match s.regValue r with
    | some w => .word w
    | none => .busError
  | some (.fin i) => .byte (s.finByte i)
  | some (.fout i) => .byte (s.foutByte i)
  | none => .busError

/-- The command written to `CMD` (30_encoding.md R90): a legal word is executed, an illegal one raises
`IllegalCommand` (R94, 60_exceptions.md R233). -/
def State.command (s : State) (w : Word) : Host.Outcome State Fault Refusal :=
  match decode w with
  | .ok i => exec i s
  | .error _ => .next (s.raise .illegalCommand)

/-- `MemWrite(addr, n, v)` (R63, R64, R66). -/
def State.portWrite (s : State) (addr n : Nat) (v : Word) : Host.Outcome State Fault Refusal :=
  match locate Config.frameMax addr n with
  | some (.reg .cmd) => (s.answer .written).command v
  | some (.reg r) =>
    match s.storeReg v r with
    | some t => .next (t.answer .written)
    | none => .next (s.answer .busError)
  | some (.fin i) => .next ((s.putFin i (v.extractLsb' 0 8)).answer .written)
  | some (.fout _) => .next (s.answer .busError)
  | none => .next (s.answer .busError)

/-- One event of the host's stream: an access (R60), the reset input (70_reset_and_hazards.md R260), or two
accesses at once, which have no step (93_implementation_defined.md U5; log 3). -/
def State.perform (s : State) : HostEvent → Host.Outcome State Fault Refusal
  | .access (.read addr n) => .next (s.answer (s.portRead addr n))
  | .access (.write addr n v) => s.portWrite addr n v
  | .reset => .next (State.afterReset (s.resets + 1) s.script)
  | .simultaneous _ _ => .fault .dataRace

/-- The next event of the host's stream, in the order the host issues them (20_memory.md R73); with none left
the block is idle and keeps all state (60_exceptions.md R244, 70 R275; log 2). -/
def State.hostStep (s : State) : Host.Outcome State Fault Refusal :=
  match s.script with
  | [] => .next s
  | e :: rest => (s.setScript rest).perform e

end Sys2Proof.Machine
end

