-- ==== Sys2Proof/Machine/Step.lean ====
section
/-! DEFINITION. One step: the block takes the next event of the host's stream. The block fetches nothing
(10_state.md R22); an instruction reaches it as the data of a host write to `CMD` (30_encoding.md R90). -/

namespace Sys2Proof.Machine

/-- One step of the machine. -/
def step (s : State) : Host.Outcome State Fault Refusal := s.hostStep

/-- `s` with the host about to write the command word `w` to `CMD`, so that the next step runs it (log 2).
The bits of `w` from `nbits` up are 0. -/
def State.withFetchWord (s : State) (nbits w : Nat) : State :=
  s.setScript (.access (.write 0x000 4 (BitVec.ofNat 32 (w % 2 ^ nbits))) :: s.script)

end Sys2Proof.Machine
end

