-- ==== Sys2Proof/Machine/Pseudo.lean ====
section
/-! DEFINITION. The assembler lines and pseudo-instructions of 30_encoding.md R96 and R97, each as the host
accesses it stands for. -/

namespace Sys2Proof.Machine

/-- `MemRead(addr, n)` as an event of the host's stream. -/
def memRead (addr n : Nat) : HostEvent := .access (.read addr n)

/-- `MemWrite(addr, n, v)` as an event of the host's stream. -/
def memWrite (addr n : Nat) (v : Word) : HostEvent := .access (.write addr n v)

/-- A command line: `MemWrite(0x000, 4, encode(...))` (R96). -/
def issue (i : Instr) : HostEvent := memWrite 0x000 4 (encode i)

/-- `CRC8.FIRST` (R97; 00_scope.md R6 `CONV_INIT`). -/
def crc8First : HostEvent := issue (.crc8 0xFF true)

/-- `CRC8.CONT v` (R97). -/
def crc8Cont (v : Byte) : HostEvent := issue (.crc8 v false)

/-- `WR32 reg, v` (R97). -/
def wr32 (r : Reg) (v : Word) : HostEvent := memWrite (regOffset r) 4 v

/-- `RD32 reg` (R97). -/
def rd32 (r : Reg) : HostEvent := memRead (regOffset r) 4

/-- `WR8 FIN[i], v` (R97). -/
def wr8Fin (i : Nat) (v : Byte) : HostEvent := memWrite (0x1000 + i) 1 (v.setWidth 32)

/-- `RD8 FIN[i]` (R97). -/
def rd8Fin (i : Nat) : HostEvent := memRead (0x1000 + i) 1

/-- `RD8 FOUT[i]` (R97). -/
def rd8Fout (i : Nat) : HostEvent := memRead (0x2000 + i) 1

/-- The byte writes of `LOADFRAME`, from index `i` on. -/
def loadBytes (i : Nat) : List Byte → List HostEvent
  | [] => []
  | b :: bs => wr8Fin i b :: loadBytes (i + 1) bs

/-- `LOADFRAME b0 … bk` (R97): the bytes, then their number into `FIN_LEN`. -/
def loadFrame (bs : List Byte) : List HostEvent :=
  loadBytes 0 bs ++ [wr32 .finLen (BitVec.ofNat 32 bs.length)]

/-- `SETCFG id, dataLen, mode, ctrOff, crcOff, nibOff, maxDelta` (R97): the seven staging writes in that
order, then `CONFIG`. -/
def setCfg (c : Staging) : List HostEvent :=
  [ wr32 .cfgId c.id, wr32 .cfgDataLen c.dataLen, wr32 .cfgMode c.mode, wr32 .cfgCtrOff c.ctrOff,
    wr32 .cfgCrcOff c.crcOff, wr32 .cfgNibOff c.nibOff, wr32 .cfgMaxDelta c.maxDelta, issue .config ]

end Sys2Proof.Machine
end

