-- ==== Sys2Proof/Safety.lean ====
section
/-! DEFINITION. The terms in which claims about runs are made: a command that ended `done` or `failed`
(00_scope.md R12), a configuration that 41_config.md R153 accepts, a layout without overlaps (43_check.md R208),
and the invariants of reachable states (10_state.md R36). -/

namespace Sys2Proof.Machine

/-- The last command ended `done` (00_scope.md R12, 10_state.md R25). -/
abbrev State.commandDone (s : State) : Prop := s.err = .noError

/-- The invariants of an active configuration, for buffers of `frameMax` bytes (10_state.md R36 c). -/
structure ActLegal (frameMax : Nat) (c : ActConfig) : Prop where
  dataLen_bytes : c.dataLen.toNat % 8 = 0
  n_pos : 1 ≤ actN c
  n_le : actN c ≤ frameMax
  crc_aligned : c.crcOff.toNat % 8 = 0
  crc_in : actCrcByte c < actN c
  ctr_in : actCtrByte c < actN c
  ctr_sh : actCtrSh c ≤ 4
  maxDelta_le : c.maxDelta.toNat ≤ 14
  nib_in : c.mode = .dataIdNibble → actNibByte c < actN c

/-- The staged values that `CONFIG` accepts, as 41_config.md R153 lists what fails: read as unsigned numbers, for
buffers of `frameMax` bytes. -/
structure StagedLegal (frameMax : Nat) (c : Staging) : Prop where
  dataLen_bytes : c.dataLen.toNat % 8 = 0
  dataLen_pos : c.dataLen.toNat ≠ 0
  dataLen_le : c.dataLen.toNat / 8 ≤ frameMax
  mode_le : c.mode.toNat ≤ 1
  maxDelta_le : c.maxDelta.toNat ≤ 14
  crc_aligned : c.crcOff.toNat % 8 = 0
  crc_in : c.crcOff.toNat / 8 < c.dataLen.toNat / 8
  ctr_in : c.ctrOff.toNat / 8 < c.dataLen.toNat / 8
  nib_in : c.mode.toNat = 1 → c.nibOff.toNat / 8 < c.dataLen.toNat / 8
  ctr_sh : c.ctrOff.toNat % 8 ≤ 4

/-- An access to a byte of `FIN` (20_memory.md R62, R64). -/
def finAccess (frameMax addr n : Nat) : Prop := n = 1 ∧ 0x1000 ≤ addr ∧ addr < 0x1000 + frameMax

/-- An access to a byte of `FOUT` (R62, R64). -/
def foutAccess (frameMax addr n : Nat) : Prop := n = 1 ∧ 0x2000 ≤ addr ∧ addr < 0x2000 + frameMax

/-- The reads the host port performs (R62 to R66), by the offsets of the map: a register other than `CMD`, or a
byte of a buffer. -/
def readable (frameMax addr n : Nat) : Prop :=
  (n = 4 ∧ addr % 4 = 0 ∧ 0x004 ≤ addr ∧ addr ≤ 0x04C ∧ addr ≠ 0x03C) ∨
    finAccess frameMax addr n ∨ foutAccess frameMax addr n

/-- The writes the host port performs (R62 to R66): `CMD`, `FIN_LEN`, the seven staging registers, `V64_IN_*`, or
a byte of `FIN`. -/
def writable (frameMax addr n : Nat) : Prop :=
  (n = 4 ∧ (addr = 0x000 ∨ addr = 0x018 ∨ (addr % 4 = 0 ∧ 0x020 ≤ addr ∧ addr ≤ 0x038) ∨
      addr = 0x040 ∨ addr = 0x044)) ∨
    finAccess frameMax addr n

/-- `k` executions of one command, each from the state the one before left. -/
def execTimes (i : Instr) : Nat → State → Host.Outcome State Fault Refusal
  | 0, s => .next s
  | k + 1, s =>
    match exec i s with
    | .next t => execTimes i k t
    | .fault r => .fault r
    | .refused r => .refused r

/-- `k` steps of the machine. -/
def stepTimes : Nat → State → Host.Outcome State Fault Refusal
  | 0, s => .next s
  | k + 1, s =>
    match step s with
    | .next t => stepTimes k t
    | .fault r => .fault r
    | .refused r => .refused r

/-- What a reset gives every element whose reset value 10_state.md R35 states. -/
structure State.AtReset (s : State) : Prop where
  tblValid : s.tblValid = false
  cfgValid : s.cfgValid = false
  resValid : s.resValid = false
  ctr : s.ctr = 0
  cfg : s.cfg = ⟨0, 0, 0, 0, 0, 0, 0⟩
  finLen : s.finLen = 0
  foutLen : s.foutLen = 0
  v64InLo : s.v64InLo = 0
  v64InHi : s.v64InHi = 0
  v64OutLo : s.v64OutLo = 0
  v64OutHi : s.v64OutHi = 0
  dout : s.dout = 0
  result : statusCode s.result = 0
  err : s.err = .noError

/-- The bits of a frame byte that a nibble at shift `s` occupies (42_protect.md R170). -/
def nibMask (s : Nat) : Byte := 0x0F#8 <<< s

/-- The non-overlap conditions of 43_check.md R208: the CRC byte holds neither nibble, and in mode
`DATA_ID_NIBBLE` the identifier nibble's bits are disjoint from the counter's. -/
structure LayoutDisjoint (c : ActConfig) : Prop where
  ctr_not_crc : actCtrByte c ≠ actCrcByte c
  nib_not_crc : c.mode = .dataIdNibble → actNibByte c ≠ actCrcByte c
  nib_not_ctr : c.mode = .dataIdNibble → actNibByte c = actCtrByte c → nibMask (actNibSh c) &&& nibMask (actCtrSh c) = 0

/-- The memory of a state is in canonical form and lies inside the buffers (20_memory.md R61). -/
structure State.MemOk (s : State) : Prop where
  fin_wf : Memory.wf s.finDraw s.fin
  fout_wf : Memory.wf s.foutDraw s.fout
  fin_in : ∀ c ∈ s.fin, c.1 < Config.frameMax
  fout_in : ∀ c ∈ s.fout, c.1 < Config.frameMax

/-- The invariants of 10_state.md R36 (b) to (e), with the form of the memories. (a) and (f) hold by the types
of `CTR` and `ERR`; (g) is about two states (`State.flagsKept`). -/
structure State.Inv (s : State) : Prop where
  table : s.tblValid = true → s.tbl = crcTable
  config : s.cfgValid = true → ActLegal Config.frameMax s.act
  foutLen : s.foutLen.toNat ≤ Config.frameMax
  result_produced : s.result ≠ .wrongSeq
  result_valid : s.resValid = true → s.result ≠ .noNewData
  mem : s.MemOk

/-- The three `STATUS` flags never return from 1 to 0 from `s` to `t` (10_state.md R36 g). -/
def State.flagsKept (s t : State) : Prop :=
  (s.tblValid = true → t.tblValid = true) ∧ (s.cfgValid = true → t.cfgValid = true) ∧
    (s.resValid = true → t.resValid = true)

end Sys2Proof.Machine
end

