-- ==== Sys2Proof/Certificates/Slice0/Obligations.lean ====
section
/-! DEFINITION. The statements about AutosarE2E CORE that are to be proved, in the order encoding, step and host
port, reset, CRC engine, configuration, packer, checker, whole machine. Each docstring names the rule of spec/ it
formalises. -/

open Sys2Proof Sys2Proof.Machine

/-! ### Encoding -/

/-- 30_encoding.md R95: `decode` yields exactly one command or `Illegal`, `encode` has the printed values and is its
inverse on the seven legal forms. -/
def Obligations.DecodeAndEncodeAgree : Prop :=
  (∀ (w : Word) (i : Instr), decode w = .ok i ↔ w = encode i) ∧
    encode .gentbl = 0x00000001 ∧
    (∀ idx : Byte, encode (.tblrd idx) = 0x00000002 ||| idx.setWidth 32 <<< 8) ∧
    (∀ (start : Byte) (first : Bool), encode (.crc8 start first) =
      0x00000003 ||| start.setWidth 32 <<< 8 ||| (if first then 1#32 else 0#32) <<< 16) ∧
    encode .config = 0x00000010 ∧ encode .protect = 0x00000011 ∧
    encode .protect64 = 0x00000012 ∧ encode .check = 0x00000013

/-- R93: a word selects a row of the opcode map by mask and match exactly when it decodes to that row's command with
some operands, and no word selects two rows. -/
def Obligations.RowsSelectTheirCommands : Prop :=
  ∀ w : Word,
    (w &&& 0xFFFFFFFF = 0x00000001 ↔ decode w = .ok .gentbl) ∧
    (w &&& 0xFFFF00FF = 0x00000002 ↔ ∃ idx, decode w = .ok (.tblrd idx)) ∧
    (w &&& 0xFFFE00FF = 0x00000003 ↔ ∃ start first, decode w = .ok (.crc8 start first)) ∧
    (w &&& 0xFFFFFFFF = 0x00000010 ↔ decode w = .ok .config) ∧
    (w &&& 0xFFFFFFFF = 0x00000011 ↔ decode w = .ok .protect) ∧
    (w &&& 0xFFFFFFFF = 0x00000012 ↔ decode w = .ok .protect64) ∧
    (w &&& 0xFFFFFFFF = 0x00000013 ↔ decode w = .ok .check) ∧
    (∀ r ∈ opcodeMap, ∀ r' ∈ opcodeMap, r.selects w = true → r'.selects w = true → r = r')

/-- R94: a word that matches no row is one of the four listed cases and conversely, the all-zero and the all-ones
word among them, and in every state it executes as `ERR <- 1` with nothing else changed. -/
def Obligations.IllegalWordsFailAndChangeNothing : Prop :=
  (∀ w : Word, wellFormedWord w = false ↔
    (w.extractLsb' 0 8 ∉ [0x01#8, 0x02#8, 0x03#8, 0x10#8, 0x11#8, 0x12#8, 0x13#8] ∨
      w.extractLsb' 17 15 ≠ 0 ∨
      (w.getLsbD 16 = true ∧ w.extractLsb' 0 8 ≠ 0x03#8) ∨
      (w.extractLsb' 8 8 ≠ 0 ∧ w.extractLsb' 0 8 ∉ [0x02#8, 0x03#8]))) ∧
  (∀ (w : Word) (s : State), wellFormedWord w = false →
    s.command w = .next { s with err := .illegalCommand }) ∧
  wellFormedWord 0x00000000 = false ∧ wellFormedWord 0xFFFFFFFF = false ∧ errCode .illegalCommand = 1

/-- Words written out from the fields of R91, one for each family of commands, decode to what they stand for; two
neighbours are illegal. -/
def Obligations.SampleWordsDecode : Prop :=
  decode 0x00000001 = .ok .gentbl ∧ decode 0x00001D02 = .ok (.tblrd 0x1D) ∧
    decode 0x0001FF03 = .ok (.crc8 0xFF true) ∧ decode 0x00005403 = .ok (.crc8 0x54 false) ∧
    decode 0x00000010 = .ok .config ∧ decode 0x00000011 = .ok .protect ∧
    decode 0x00000012 = .ok .protect64 ∧ decode 0x00000013 = .ok .check ∧
    decode 0x00010002 = .error .flagWithoutOperand ∧ decode 0x00000113 = .error .byteWithoutOperand

/-! ### The step and the host port -/

/-- R90 and 20_memory.md R60: when the host's next access is the write of a legal word to `CMD`, the step is the
execution of the decoded command, the access taken off the host's stream and answered as performed. -/
def Obligations.StepRunsTheDecodedCommand : Prop :=
  ∀ (s : State) (w : Word) (i : Instr) (rest : List HostEvent),
    s.script = .access (.write 0x000 4 w) :: rest → decode w = .ok i →
      step s = exec i { s with script := rest, resp := .written }

/-- 60_exceptions.md R233: for a word that decodes to no command the step raises `IllegalCommand`, whatever the state,
and stores the word nowhere. -/
def Obligations.StepOnIllegalWordRaises : Prop :=
  ∀ (s : State) (w : Word) (e : IllegalWord) (rest : List HostEvent),
    s.script = .access (.write 0x000 4 w) :: rest → decode w = .error e →
      step s = .next { s with script := rest, resp := .written, err := .illegalCommand }

/-- 60_exceptions.md R244 and 70_reset_and_hazards.md R275: with no access left to perform the block is idle and keeps
all state. -/
def Obligations.IdleStepKeepsAllState : Prop :=
  ∀ s : State, s.script = [] → step s = .next s

/-- The machine stops on two accesses at once, with the fault `dataRace` (20_memory.md R76, 93 U5 give no step there;
that the model stops is its choice, log 3), and everywhere else it answers a next state: no command and no access is
fatal. -/
def Obligations.StepStopsOnlyOnARace : Prop :=
  ∀ s : State,
    ((∃ a b rest, s.script = .simultaneous a b :: rest) ↔ step s = .fault .dataRace) ∧
    ((∀ a b rest, s.script ≠ .simultaneous a b :: rest) ↔ ∃ t, step s = .next t)

/-- 20_memory.md R66: every access outside the map, of the wrong width, misaligned, a write to a read-only location or
a read of `CMD` is refused: the host gets `BusError` and no state changes, `ERR` included. For an offset of 0x4000 and
above, of which R62 says nothing, the refusal is the model's choice (log 9). -/
def Obligations.RefusedAccessesChangeNothing : Prop :=
  (∀ (s : State) (addr n : Nat) (rest : List HostEvent),
    s.script = .access (.read addr n) :: rest → ¬ readable Config.frameMax addr n →
      step s = .next { s with script := rest, resp := .busError }) ∧
  (∀ (s : State) (addr n : Nat) (v : Word) (rest : List HostEvent),
    s.script = .access (.write addr n v) :: rest → ¬ writable Config.frameMax addr n →
      step s = .next { s with script := rest, resp := .busError })

/-- 10_state.md R24: the host reads the three flags in bits 0, 1 and 2 of `STATUS`, and bits 31:3 as zero. -/
def Obligations.StatusReadsTheThreeFlags : Prop :=
  ∀ (s : State) (rest : List HostEvent), s.script = .access (.read 0x004 4) :: rest →
    ∃ w : Word, step s = .next { s with script := rest, resp := .word w } ∧
      w.getLsbD 0 = s.tblValid ∧ w.getLsbD 1 = s.cfgValid ∧ w.getLsbD 2 = s.resValid ∧
      ∀ i, 3 ≤ i → w.getLsbD i = false

/-- 20_memory.md R62, R63: what a read of each other readable register returns, by its offset; unused bits read as 0. -/
def Obligations.RegisterReadsReturnTheirRegisters : Prop :=
  ∀ (s : State) (addr : Nat) (w : Word) (rest : List HostEvent),
    s.script = .access (.read addr 4) :: rest →
      (addr, w) ∈
        [ (0x008, (errCode s.err).setWidth 32), (0x00C, s.ctr.setWidth 32),
          (0x010, (statusCode s.result).setWidth 32), (0x014, s.dout.setWidth 32),
          (0x018, s.finLen), (0x01C, s.foutLen), (0x020, s.cfg.id), (0x024, s.cfg.dataLen),
          (0x028, s.cfg.mode), (0x02C, s.cfg.ctrOff), (0x030, s.cfg.crcOff), (0x034, s.cfg.nibOff),
          (0x038, s.cfg.maxDelta), (0x040, s.v64InLo), (0x044, s.v64InHi), (0x048, s.v64OutLo),
          (0x04C, s.v64OutHi) ] →
      step s = .next { s with script := rest, resp := .word w }

/-- 60_exceptions.md R231 and 10_state.md R26: the numbers the host reads from `ERR` and `RESULT`. -/
def Obligations.CodesReadAsNumbered : Prop :=
  ∀ (s : State) (rest : List HostEvent),
    (s.script = .access (.read 0x008 4) :: rest →
      ∃ w : Word, step s = .next { s with script := rest, resp := .word w } ∧
        (s.err, w.toNat) ∈
          [ (ErrCode.noError, 0), (.illegalCommand, 1), (.noTable, 2), (.noConfig, 3), (.length, 4),
            (.cfgDataLen, 5), (.cfgRange, 6), (.cfgCrcAlign, 7), (.cfgBounds, 8), (.cfgCtrBit, 9) ]) ∧
    (s.script = .access (.read 0x010 4) :: rest →
      ∃ w : Word, step s = .next { s with script := rest, resp := .word w } ∧
        (s.result, w.toNat) ∈
          [ (CheckStatus.noNewData, 0), (.error, 1), (.wrongSeq, 2), (.wrongInput, 3), (.repeated, 4),
            (.okSomeLost, 5), (.ok, 6) ])

/-- R63: a write to a read-write register stores all 32 bits, so that reading it next returns the value written, and no
other register and no buffer byte changes. -/
def Obligations.RegisterWritesStoreAllBits : Prop :=
  ∀ (s : State) (r : Reg) (v : Word) (rest : List HostEvent),
    r ∈ [Reg.finLen, .cfgId, .cfgDataLen, .cfgMode, .cfgCtrOff, .cfgCrcOff, .cfgNibOff, .cfgMaxDelta,
      .v64InLo, .v64InHi] →
    s.script = .access (.write (regOffset r) 4 v) :: .access (.read (regOffset r) 4) :: rest →
      ∃ t, step s = .next t ∧ t.resp = .written ∧
        step t = .next { t with script := rest, resp := .word v } ∧
        (∀ r', r' ≠ r → t.regValue r' = s.regValue r') ∧
        t = { s with script := t.script, resp := .written, finLen := t.finLen, cfg := t.cfg,
                     v64InLo := t.v64InLo, v64InHi := t.v64InHi }

/-- R64: a byte access at 0x1000 + i writes `v[7:0]` to `FIN[i]` or reads `FIN[i]`, one at 0x2000 + i reads `FOUT[i]`;
the write changes no other byte and nothing else. -/
def Obligations.BufferBytesReadAndWrite : Prop :=
  ∀ (s : State) (i : Nat) (rest : List HostEvent), s.MemOk → i < Config.frameMax →
    (∀ v : Word, s.script = .access (.write (0x1000 + i) 1 v) :: rest →
      ∃ t, step s = .next t ∧ t.finByte i = v.extractLsb' 0 8 ∧
        (∀ k, k ≠ i → t.finByte k = s.finByte k) ∧ (∀ k, t.foutByte k = s.foutByte k) ∧
        t = { s with script := rest, resp := .written, fin := t.fin }) ∧
    (s.script = .access (.read (0x1000 + i) 1) :: rest →
      step s = .next { s with script := rest, resp := .byte (s.finByte i) }) ∧
    (s.script = .access (.read (0x2000 + i) 1) :: rest →
      step s = .next { s with script := rest, resp := .byte (s.foutByte i) })

/-- R65: no read has a side effect, and a write other than the one to `CMD` changes at most the location it names: of
the registers only those at its offset, of the buffer bytes only `FIN[addr - 0x1000]`. That an access at 0x4000 and above
changes nothing is the model's choice (log 9). -/
def Obligations.OnlyCmdWritesHaveSideEffects : Prop :=
  (∀ (s t : State) (addr n : Nat) (rest : List HostEvent),
    s.script = .access (.read addr n) :: rest → step s = .next t →
      t = { s with script := rest, resp := t.resp }) ∧
  (∀ (s t : State) (addr n : Nat) (v : Word) (rest : List HostEvent),
    s.script = .access (.write addr n v) :: rest → ¬ (addr = 0x000 ∧ n = 4) → step s = .next t →
      t = { s with script := rest, resp := t.resp, fin := t.fin, finLen := t.finLen, cfg := t.cfg,
                   v64InLo := t.v64InLo, v64InHi := t.v64InHi } ∧
      (∀ r, ¬ (n = 4 ∧ addr = regOffset r) → t.regValue r = s.regValue r) ∧
      (∀ i, ¬ (n = 1 ∧ addr = 0x1000 + i) → t.finByte i = s.finByte i) ∧
      (∀ i, t.foutByte i = s.foutByte i))

/-- 30_encoding.md R97 `LOADFRAME`: its accesses leave the frame in `FIN[0..k]` and its length in `FIN_LEN`, the rest of
the machine unchanged. -/
def Obligations.LoadFrameStagesTheFrame : Prop :=
  ∀ (s : State) (bs : List Byte) (rest : List HostEvent), s.MemOk → bs.length ≤ Config.frameMax →
    s.script = loadFrame bs ++ rest →
      ∃ t, stepTimes (bs.length + 1) s = .next t ∧ t.finFrame bs.length = bs ∧
        t.finLen.toNat = bs.length ∧ (∀ k, bs.length ≤ k → t.finByte k = s.finByte k) ∧
        t = { s with script := rest, resp := .written, fin := t.fin, finLen := t.finLen }

/-- R97 `SETCFG`: the seven staging writes, then `CONFIG` over exactly the values given. -/
def Obligations.SetCfgStagesThenConfigures : Prop :=
  ∀ (s : State) (c : Staging) (rest : List HostEvent), s.script = setCfg c ++ rest →
    stepTimes 8 s = exec .config { s with script := rest, resp := .written, cfg := c }

/-! ### Reset -/

/-- 70_reset_and_hazards.md R260: the initial state, and the state after any reset event, has every flag 0, `CTR`,
`ERR`, `RESULT`, `DOUT`, the lengths, the staging registers and `V64_*` 0. -/
def Obligations.ResetGivesTheStatedValues : Prop :=
  State.reset.AtReset ∧
    ∀ (s : State) (rest : List HostEvent), s.script = .reset :: rest →
      ∃ t, step s = .next t ∧ t.AtReset ∧ t.script = rest

/-! ### The CRC engine -/

/-- 40_crc_engine.md R122: the 256 entries of the generated table are the printed ones. -/
def Obligations.CrcTableIsThePrintedTable : Prop :=
  crcTable.toList =
    [0x00, 0x1D, 0x3A, 0x27, 0x74, 0x69, 0x4E, 0x53, 0xE8, 0xF5, 0xD2, 0xCF, 0x9C, 0x81, 0xA6, 0xBB,
     0xCD, 0xD0, 0xF7, 0xEA, 0xB9, 0xA4, 0x83, 0x9E, 0x25, 0x38, 0x1F, 0x02, 0x51, 0x4C, 0x6B, 0x76] ++
    [0x87, 0x9A, 0xBD, 0xA0, 0xF3, 0xEE, 0xC9, 0xD4, 0x6F, 0x72, 0x55, 0x48, 0x1B, 0x06, 0x21, 0x3C,
     0x4A, 0x57, 0x70, 0x6D, 0x3E, 0x23, 0x04, 0x19, 0xA2, 0xBF, 0x98, 0x85, 0xD6, 0xCB, 0xEC, 0xF1] ++
    [0x13, 0x0E, 0x29, 0x34, 0x67, 0x7A, 0x5D, 0x40, 0xFB, 0xE6, 0xC1, 0xDC, 0x8F, 0x92, 0xB5, 0xA8,
     0xDE, 0xC3, 0xE4, 0xF9, 0xAA, 0xB7, 0x90, 0x8D, 0x36, 0x2B, 0x0C, 0x11, 0x42, 0x5F, 0x78, 0x65] ++
    [0x94, 0x89, 0xAE, 0xB3, 0xE0, 0xFD, 0xDA, 0xC7, 0x7C, 0x61, 0x46, 0x5B, 0x08, 0x15, 0x32, 0x2F,
     0x59, 0x44, 0x63, 0x7E, 0x2D, 0x30, 0x17, 0x0A, 0xB1, 0xAC, 0x8B, 0x96, 0xC5, 0xD8, 0xFF, 0xE2] ++
    [0x26, 0x3B, 0x1C, 0x01, 0x52, 0x4F, 0x68, 0x75, 0xCE, 0xD3, 0xF4, 0xE9, 0xBA, 0xA7, 0x80, 0x9D,
     0xEB, 0xF6, 0xD1, 0xCC, 0x9F, 0x82, 0xA5, 0xB8, 0x03, 0x1E, 0x39, 0x24, 0x77, 0x6A, 0x4D, 0x50] ++
    [0xA1, 0xBC, 0x9B, 0x86, 0xD5, 0xC8, 0xEF, 0xF2, 0x49, 0x54, 0x73, 0x6E, 0x3D, 0x20, 0x07, 0x1A,
     0x6C, 0x71, 0x56, 0x4B, 0x18, 0x05, 0x22, 0x3F, 0x84, 0x99, 0xBE, 0xA3, 0xF0, 0xED, 0xCA, 0xD7] ++
    [0x35, 0x28, 0x0F, 0x12, 0x41, 0x5C, 0x7B, 0x66, 0xDD, 0xC0, 0xE7, 0xFA, 0xA9, 0xB4, 0x93, 0x8E,
     0xF8, 0xE5, 0xC2, 0xDF, 0x8C, 0x91, 0xB6, 0xAB, 0x10, 0x0D, 0x2A, 0x37, 0x64, 0x79, 0x5E, 0x43] ++
    [0xB2, 0xAF, 0x88, 0x95, 0xC6, 0xDB, 0xFC, 0xE1, 0x5A, 0x47, 0x60, 0x7D, 0x2E, 0x33, 0x14, 0x09,
     0x7F, 0x62, 0x45, 0x58, 0x0B, 0x16, 0x31, 0x2C, 0x97, 0x8A, 0xAD, 0xB0, 0xE3, 0xFE, 0xD9, 0xC4]

/-- R125, all seven laws of `table`, `crc_step` and `crc_run`. -/
def Obligations.CrcEngineLaws : Prop :=
  tableEntry 0x00 = 0x00 ∧
  (tableEntry 0x01 = 0x1D ∧ tableEntry 0x80 = 0x26 ∧ tableEntry 0xFF = 0xC4) ∧
  (∀ x y : Byte, tableEntry x ^^^ tableEntry y = tableEntry (x ^^^ y)) ∧
  (Function.Bijective tableEntry ∧ (∀ r, Function.Bijective (crcStep crcTable r)) ∧
    ∀ b, Function.Bijective fun r => crcStep crcTable r b) ∧
  (∀ r b : Byte, crcStep crcTable r b = Nat.repeat crcShift 8 (r ^^^ b)) ∧
  (∀ (r : Byte) (A B : List Byte), crcRun crcTable r (A ++ B) = crcRun crcTable (crcRun crcTable r A) B) ∧
  (∀ (r b b' : Byte) (A C : List Byte), b ≠ b' →
    crcRun crcTable r (A ++ [b] ++ C) ≠ crcRun crcTable r (A ++ [b'] ++ C))

/-- R126: `GENTBL` ends `done` in every state, entry `i` of `TBL` is `table(i)`, `TBL_VALID` is 1, `ERR` is 0, nothing
else changes, and a second `GENTBL` changes nothing. -/
def Obligations.GentblFillsTheTable : Prop :=
  ∀ s : State, ∃ t, exec .gentbl s = .next t ∧
    (∀ (i : Nat) (h : i < 256), t.tbl[i] = tableEntry (BitVec.ofNat 8 i)) ∧
    t = { s with tbl := t.tbl, tblValid := true, err := .noError } ∧
    exec .gentbl t = .next t

/-- R127: `TBLRD idx` puts `TBL[idx]` in `DOUT` and ends `done` while the table is there, and fails `NoTable` (code 2)
while it is not; nothing else changes. -/
def Obligations.TblrdReadsOneEntry : Prop :=
  ∀ (s : State) (idx : Byte),
    (s.tblValid = true →
      exec (.tblrd idx) s = .next { s with dout := s.tbl[idx.toNat]'idx.isLt, err := .noError }) ∧
    (s.tblValid = false → exec (.tblrd idx) s = .next { s with err := .noTable } ∧ errCode .noTable = 2)

/-- R128: `CRC8` puts the raw register of `crc_run(start, FIN[0 .. FIN_LEN-1])` in `DOUT`, whichever the flag is (R130);
its failures in order are `NoTable` and `Length`; nothing else changes. -/
def Obligations.Crc8ChecksumsTheInput : Prop :=
  ∀ (s : State) (start : Byte) (first : Bool),
    (s.tblValid = true → s.finLen.toNat ≤ Config.frameMax →
      exec (.crc8 start first) s =
        .next { s with dout := crcRun s.tbl start ((List.range s.finLen.toNat).map s.finByte), err := .noError }) ∧
    (s.tblValid = false → exec (.crc8 start first) s = .next { s with err := .noTable } ∧ errCode .noTable = 2) ∧
    (s.tblValid = true → Config.frameMax < s.finLen.toNat →
      exec (.crc8 start first) s = .next { s with err := .length } ∧ errCode .length = 4)

/-- R131 with R125 law 6: `CRC8` over one fragment and then, seeded with its `DOUT`, over the next gives the `DOUT` of one
`CRC8` over the two fragments together. -/
def Obligations.ChainedCrc8EqualsOneRun : Prop :=
  ∀ (s₁ s₂ s t₁ t₂ t : State) (seed : Byte) (first : Bool),
    s₁.tblValid = true → s₂.tblValid = true → s.tblValid = true → s₂.tbl = s₁.tbl → s.tbl = s₁.tbl →
    s₁.finLen.toNat ≤ Config.frameMax → s₂.finLen.toNat ≤ Config.frameMax → s.finLen.toNat ≤ Config.frameMax →
    s.finFrame s.finLen.toNat = s₁.finFrame s₁.finLen.toNat ++ s₂.finFrame s₂.finLen.toNat →
    exec (.crc8 seed first) s₁ = .next t₁ → exec (.crc8 t₁.dout false) s₂ = .next t₂ →
    exec (.crc8 seed first) s = .next t → t₂.dout = t.dout

/-! ### The configuration -/

/-- 41_config.md R152: a `CONFIG` of accepted staged values latches them into `ACT`, the identifier masked to 12 bits and
no other field altered, restarts `CTR`, sets `CFG_VALID`, ends `done` and changes nothing else; any other `CONFIG` changes
`ERR` only. -/
def Obligations.ConfigConstructsTheEngine : Prop :=
  ∀ s : State,
    (StagedLegal Config.frameMax s.cfg →
      ∃ t, exec .config s = .next t ∧
        t.act.id.toNat = s.cfg.id.toNat % 4096 ∧ t.act.dataLen.toNat = s.cfg.dataLen.toNat ∧
        (t.act.mode = .dataIdNibble ↔ s.cfg.mode = 1) ∧ t.act.ctrOff.toNat = s.cfg.ctrOff.toNat ∧
        t.act.crcOff.toNat = s.cfg.crcOff.toNat ∧ t.act.nibOff = s.cfg.nibOff ∧
        t.act.maxDelta.toNat = s.cfg.maxDelta.toNat ∧
        t = { s with act := t.act, ctr := 0, cfgValid := true, err := .noError }) ∧
    (¬ StagedLegal Config.frameMax s.cfg →
      ∃ e, e ≠ ErrCode.noError ∧ exec .config s = .next { s with err := e })

/-- R153: the tests of `validate` in order, each with its code, and the acceptance of everything else; a failed `CONFIG`
changes `ERR` only. -/
def Obligations.ConfigReportsTheFirstFailure : Prop :=
  ∀ s : State,
    let n := s.cfg.dataLen.toNat / 8
    let badLen := s.cfg.dataLen.toNat % 8 ≠ 0 ∨ s.cfg.dataLen.toNat = 0 ∨ n > Config.frameMax
    let badRange := s.cfg.mode.toNat > 1 ∨ s.cfg.maxDelta.toNat > 14
    let badAlign := s.cfg.crcOff.toNat % 8 ≠ 0
    let badBounds := s.cfg.crcOff.toNat / 8 ≥ n ∨ s.cfg.ctrOff.toNat / 8 ≥ n ∨
      (s.cfg.mode.toNat = 1 ∧ s.cfg.nibOff.toNat / 8 ≥ n)
    let badCtrBit := s.cfg.ctrOff.toNat % 8 > 4
    (badLen → exec .config s = .next { s with err := .cfgDataLen } ∧ errCode .cfgDataLen = 5) ∧
    (¬ badLen → badRange → exec .config s = .next { s with err := .cfgRange } ∧ errCode .cfgRange = 6) ∧
    (¬ badLen → ¬ badRange → badAlign → exec .config s = .next { s with err := .cfgCrcAlign } ∧ errCode .cfgCrcAlign = 7) ∧
    (¬ badLen → ¬ badRange → ¬ badAlign → badBounds → exec .config s = .next { s with err := .cfgBounds } ∧ errCode .cfgBounds = 8) ∧
    (¬ badLen → ¬ badRange → ¬ badAlign → ¬ badBounds → badCtrBit →
      exec .config s = .next { s with err := .cfgCtrBit } ∧ errCode .cfgCtrBit = 9) ∧
    (¬ badLen → ¬ badRange → ¬ badAlign → ¬ badBounds → ¬ badCtrBit →
      ∃ t, exec .config s = .next t ∧ t.err = .noError ∧ t.cfgValid = true)

/-- R155: `ACT` changes in a step only by a successful `CONFIG` or a reset; no host write to the staging registers and no
other command reaches it. -/
def Obligations.ActiveConfigurationIsImmutable : Prop :=
  ∀ s t : State, step s = .next t → t.act ≠ s.act →
    (∃ rest, s.script = .reset :: rest) ∨
      ((∃ rest, s.script = .access (.write 0x000 4 0x00000010) :: rest) ∧ t.err = .noError ∧ t.cfgValid = true)

/-! ### The packer -/

/-- 42_protect.md R172, the five laws of the nibble primitives. -/
def Obligations.NibblePrimitiveLaws : Prop :=
  ∀ (b : Byte) (v w : Nibble) (s : Nat), s ≤ 7 →
    (s ≤ 4 → nibGet (nibPut b s v) s = v) ∧
    nibGet (nibPut b s v) s = v &&& (0xF#4 >>> (s - 4)) ∧
    nibPut (nibPut b s v) s w = nibPut b s w ∧
    nibPut b s (nibGet b s) = b ∧
    (nibPut (nibPut b 0 v) 4 w = nibPut (nibPut b 4 w) 0 v ∧
      nibGet (nibPut b 4 w) 0 = nibGet b 0 ∧ nibGet (nibPut b 0 v) 4 = nibGet b 4)

/-- R174: the checksum is the complement of one run, seeded with 0xFF, over the two identifier bytes and the frame without
its CRC byte (the constants are 90_conflicts.md C1's ruling, log 10). -/
def Obligations.ChecksumCoversIdentifierAndFrame : Prop :=
  ∀ (c : ActConfig) (out : List Byte), actCrcByte c < out.length →
    p11Crc crcTable c out =
      ~~~ crcRun crcTable 0xFF
        ([c.id.extractLsb' 0 8, if c.mode = .both then 0#4 ++ c.id.extractLsb' 8 4 else 0x00] ++
          (out.take (actCrcByte c) ++ out.drop (actCrcByte c + 1)))

/-- R175, the six properties of the frame transform, for a legal configuration and a frame of its length. -/
def Obligations.FrameTransformProperties : Prop :=
  ∀ (c : ActConfig) (inp : List Byte) (ctr : Nibble), ActLegal Config.frameMax c → inp.length = actN c →
    let out := p11Frame crcTable c inp ctr
    out.length = inp.length ∧
    (∀ i, i ≠ actCrcByte c → i ≠ actCtrByte c → (c.mode = .dataIdNibble → i ≠ actNibByte c) →
      byteAt out i = byteAt inp i) ∧
    (∀ b : Byte, p11Frame crcTable c (inp.set (actCrcByte c) b) ctr = out) ∧
    (actCtrByte c ≠ actCrcByte c → nibGet (byteAt out (actCtrByte c)) (actCtrSh c) = ctr) ∧
    p11Frame crcTable c out ctr = out ∧
    (∀ ctr' : Nibble, actCtrByte c ≠ actCrcByte c → ctr ≠ ctr' →
      byteAt out (actCrcByte c) ≠ byteAt (p11Frame crcTable c inp ctr') (actCrcByte c))

/-- R173, bit by bit: outside the CRC byte a bit of the frame is the counter's where the counter's field covers it (step 3),
else the identifier's bit 8 to 11 where in mode `DATA_ID_NIBBLE` the identifier nibble's field covers it (step 2), else the
input's (step 1); the CRC byte is the checksum of the frame so written (steps 4 and 5; it does not enter its own checksum,
R174). In mode `BOTH` the nibble's offset has no influence, and the input's CRC byte has none in either mode. -/
def Obligations.FrameTransformWritesTheFields : Prop :=
  ∀ (tbl : Vector Byte 256) (c : ActConfig) (inp : List Byte) (ctr : Nibble), ActLegal Config.frameMax c →
    inp.length = actN c →
    let out := p11Frame tbl c inp ctr
    out.length = actN c ∧
    (∀ i j, i < actN c → i ≠ actCrcByte c → j < 8 →
      (byteAt out i).getLsbD j =
        if i = actCtrByte c ∧ actCtrSh c ≤ j ∧ j < actCtrSh c + 4 then ctr.getLsbD (j - actCtrSh c)
        else if c.mode = .dataIdNibble ∧ i = actNibByte c ∧ actNibSh c ≤ j ∧ j < actNibSh c + 4 then
          c.id.getLsbD (8 + (j - actNibSh c))
        else (byteAt inp i).getLsbD j) ∧
    byteAt out (actCrcByte c) = p11Crc tbl c out ∧
    (c.mode = .both → ∀ off, p11Frame tbl { c with nibOff := off } inp ctr = out) ∧
    (∀ b : Byte, p11Frame tbl c (inp.set (actCrcByte c) b) ctr = out)

/-- 95_test_vectors.md V-S7 by R173 step 2 and R172 law 2: in mode `DATA_ID_NIBBLE`, where neither the CRC byte nor the
counter's field covers the identifier nibble, the nibble of every transformed frame is the part of `id[11:8]` that fits in
its byte (all of it up to shift 4), and so it is in the `FOUT` of a `PROTECT` and of a `PROTECT64`. -/
def Obligations.IdentifierNibbleIsWritten : Prop :=
  ∀ c : ActConfig, ActLegal Config.frameMax c → c.mode = .dataIdNibble → actNibByte c ≠ actCrcByte c →
    (actNibByte c = actCtrByte c → nibMask (actNibSh c) &&& nibMask (actCtrSh c) = 0) →
    let idPart := c.id.extractLsb' 8 4 &&& (0xF#4 >>> (actNibSh c - 4))
    (actNibSh c ≤ 4 → idPart = c.id.extractLsb' 8 4) ∧
    (∀ (tbl : Vector Byte 256) (inp : List Byte) (ctr : Nibble), inp.length = actN c →
      nibGet (byteAt (p11Frame tbl c inp ctr) (actNibByte c)) (actNibSh c) = idPart) ∧
    (∀ s : State, s.tblValid = true → s.cfgValid = true → s.act = c → Memory.wf s.foutDraw s.fout →
      (s.finLen.toNat = actN c →
        ∃ t, exec .protect s = .next t ∧ nibGet (t.foutByte (actNibByte c)) (actNibSh c) = idPart) ∧
      (c.dataLen = 64 →
        ∃ t, exec .protect64 s = .next t ∧ nibGet (t.foutByte (actNibByte c)) (actNibSh c) = idPart))

/-- R177: `B[k] = V[8k+7:8k]` both ways, and the two conversions are each other's inverse. -/
def Obligations.BytesAndIntegerAreInverse : Prop :=
  (∀ (v : BitVec 64) (k : Nat), k < 8 → byteAt (bytesLe v) k = v.extractLsb' (8 * k) 8) ∧
  (∀ (B : List Byte) (k : Nat), B.length = 8 → k < 8 → (intLe B).extractLsb' (8 * k) 8 = byteAt B k) ∧
  (∀ v : BitVec 64, (bytesLe v).length = 8 ∧ intLe (bytesLe v) = v) ∧
  (∀ B : List Byte, B.length = 8 → bytesLe (intLe B) = B)

/-- R176: `PROTECT` writes the protected frame of `FIN[0 .. n-1]` to `FOUT[0 .. n-1]`, `n` to `FOUT_LEN`, advances `CTR`
modulo 16, ends `done`, and leaves every other byte and element alone; its failures in order are `NoTable`, `NoConfig` and
`Length`, with nothing but `ERR` changed. -/
def Obligations.ProtectEmitsTheFrame : Prop :=
  ∀ s : State, Memory.wf s.foutDraw s.fout →
    (s.tblValid = true → s.cfgValid = true → s.finLen.toNat = actN s.act →
      ∃ t, exec .protect s = .next t ∧
        (∀ i, i < actN s.act →
          t.foutByte i = byteAt (p11Frame s.tbl s.act ((List.range (actN s.act)).map s.finByte) s.ctr) i) ∧
        (∀ i, actN s.act ≤ i → t.foutByte i = s.foutByte i) ∧ (∀ i, t.finByte i = s.finByte i) ∧
        t.foutLen.toNat = actN s.act ∧ t.ctr.toNat = (s.ctr.toNat + 1) % 16 ∧
        t = { s with fout := t.fout, foutLen := t.foutLen, ctr := t.ctr, err := .noError }) ∧
    (s.tblValid = false → exec .protect s = .next { s with err := .noTable } ∧ errCode .noTable = 2) ∧
    (s.tblValid = true → s.cfgValid = false →
      exec .protect s = .next { s with err := .noConfig } ∧ errCode .noConfig = 3) ∧
    (s.tblValid = true → s.cfgValid = true → s.finLen.toNat ≠ actN s.act →
      exec .protect s = .next { s with err := .length } ∧ errCode .length = 4)

/-- R178: `PROTECT64` protects the eight little-endian bytes of `V64_IN`, leaves the frame in `FOUT[0..7]` and in
`V64_OUT`, advances `CTR` modulo 16, ends `done`, and leaves every other byte and element alone; its failures in order are
`NoTable`, `NoConfig` and `Length`, with nothing but `ERR` changed. -/
def Obligations.Protect64EmitsTheInteger : Prop :=
  ∀ s : State, Memory.wf s.foutDraw s.fout →
    (s.tblValid = true → s.cfgValid = true → s.act.dataLen = 64 →
      ∃ t, exec .protect64 s = .next t ∧
        (∀ i, i < 8 → t.foutByte i = byteAt (p11Frame s.tbl s.act (bytesLe (s.v64InHi ++ s.v64InLo)) s.ctr) i) ∧
        (∀ i, 8 ≤ i → t.foutByte i = s.foutByte i) ∧ (∀ i, t.finByte i = s.finByte i) ∧
        t.v64OutHi ++ t.v64OutLo = intLe (p11Frame s.tbl s.act (bytesLe (s.v64InHi ++ s.v64InLo)) s.ctr) ∧
        t.foutLen = 8 ∧ t.ctr.toNat = (s.ctr.toNat + 1) % 16 ∧
        t = { s with fout := t.fout, foutLen := t.foutLen, ctr := t.ctr, v64OutLo := t.v64OutLo,
                     v64OutHi := t.v64OutHi, err := .noError }) ∧
    (s.tblValid = false → exec .protect64 s = .next { s with err := .noTable } ∧ errCode .noTable = 2) ∧
    (s.tblValid = true → s.cfgValid = false →
      exec .protect64 s = .next { s with err := .noConfig } ∧ errCode .noConfig = 3) ∧
    (s.tblValid = true → s.cfgValid = true → s.act.dataLen ≠ 64 →
      exec .protect64 s = .next { s with err := .length } ∧ errCode .length = 4)

/-- R178: the 64-bit overload is the byte-sequence `protect` on the bytes of the integer: where `FIN` holds those bytes,
`PROTECT` and `PROTECT64` leave the same `FOUT`, `FOUT_LEN`, `CTR` and `ERR`, and `V64_OUT` is the integer of the frame. -/
def Obligations.Protect64AgreesWithProtect : Prop :=
  ∀ s : State, Memory.wf s.foutDraw s.fout → s.tblValid = true → s.cfgValid = true → s.act.dataLen = 64 →
    s.finLen = 8 → s.finFrame 8 = bytesLe s.v64In →
    ∃ t u, exec .protect s = .next t ∧ exec .protect64 s = .next u ∧
      u = { t with v64OutLo := u.v64OutLo, v64OutHi := u.v64OutHi } ∧
      bytesLe (u.v64OutHi ++ u.v64OutLo) = (List.range 8).map u.foutByte

/-- R178 (V-Q8): `PROTECT64` neither reads nor writes `FIN` and `FIN_LEN`. -/
def Obligations.Protect64IgnoresTheInputBuffer : Prop :=
  ∀ (s t : State) (f : Memory) (l : Word), exec .protect64 s = .next t →
    exec .protect64 { s with fin := f, finLen := l } = .next { t with fin := f, finLen := l }

/-- R176 (V-S4): the output of `PROTECT` on one input repeats after 16 commands: the 17th leaves the `FOUT` of the first,
and after the 16th `CTR` is what it was. -/
def Obligations.ProtectHasPeriodSixteen : Prop :=
  ∀ s : State, Memory.wf s.foutDraw s.fout → s.tblValid = true → s.cfgValid = true →
    s.finLen.toNat = actN s.act →
    ∃ t₁ t₁₆ t₁₇, execTimes .protect 1 s = .next t₁ ∧ execTimes .protect 16 s = .next t₁₆ ∧
      execTimes .protect 17 s = .next t₁₇ ∧ t₁₆.ctr = s.ctr ∧ t₁₇ = t₁

/-- The source's scenario under the algorithm of R173, R174 (95_test_vectors.md V-S1; 90_conflicts.md C1): the frames of
the first and the second `PROTECT` of the zero frame. -/
def Obligations.ScenarioFrames : Prop :=
  p11Frame crcTable ⟨0x123, 64, .both, 8, 0, 12, 3⟩ (List.replicate 8 0x00) 0 =
      [0xB0, 0x00, 0x00, 0x00, 0x00, 0x00, 0x00, 0x00] ∧
    p11Frame crcTable ⟨0x123, 64, .both, 8, 0, 12, 3⟩ (List.replicate 8 0x00) 1 =
      [0xED, 0x01, 0x00, 0x00, 0x00, 0x00, 0x00, 0x00]

/-! ### The checker -/

/-- 43_check.md R202: `CHECK` of a frame of the right length ends `done` with the classified status in `RESULT`,
`RES_VALID` 1, and `CTR` moved to the received counter on acceptance; `NoTable` and `NoConfig` come first; nothing else
changes. -/
def Obligations.CheckClassifiesTheFrame : Prop :=
  ∀ s : State,
    (s.tblValid = false → exec .check s = .next { s with err := .noTable } ∧ errCode .noTable = 2) ∧
    (s.tblValid = true → s.cfgValid = false →
      exec .check s = .next { s with err := .noConfig } ∧ errCode .noConfig = 3) ∧
    (s.tblValid = true → s.cfgValid = true → s.finLen.toNat ≠ actN s.act →
      exec .check s = .next { s with result := .wrongInput, resValid := true, err := .noError }) ∧
    (s.tblValid = true → s.cfgValid = true → s.finLen.toNat = actN s.act →
      let rx := (List.range (actN s.act)).map s.finByte
      let rc := nibGet (byteAt rx (actCtrByte s.act)) (actCtrSh s.act)
      let expd := p11Frame s.tbl s.act rx rc
      let crcGood := decide (byteAt expd (actCrcByte s.act) = byteAt rx (actCrcByte s.act))
      let idGood := decide (s.act.mode = .both ∨
        nibGet (byteAt expd (actNibByte s.act)) (actNibSh s.act) =
          nibGet (byteAt rx (actNibByte s.act)) (actNibSh s.act))
      let st := classify crcGood idGood (rc - s.ctr) s.act.maxDelta
      exec .check s = .next { s with result := st, resValid := true, err := .noError,
                                     ctr := if st = .ok ∨ st = .okSomeLost then rc else s.ctr })

/-- R204, its direct form: in a layout without overlaps a received frame of the right length is `ERROR` exactly when its
CRC byte is not the checksum computed directly over it, or in mode `DATA_ID_NIBBLE` its identifier nibble is not the part of
`id[11:8]` that fits, or the counter is too far ahead (R206); a wrong identifier nibble alone is `ERROR` with `CTR` held,
even when the checksum matches (V-S7). -/
def Obligations.IntegrityHasItsDirectForm : Prop :=
  ∀ s : State, s.tblValid = true → s.cfgValid = true → ActLegal Config.frameMax s.act → LayoutDisjoint s.act →
    s.finLen.toNat = actN s.act →
    let rx := (List.range (actN s.act)).map s.finByte
    let rc := nibGet (byteAt rx (actCtrByte s.act)) (actCtrSh s.act)
    let idWrong := s.act.mode = .dataIdNibble ∧ nibGet (byteAt rx (actNibByte s.act)) (actNibSh s.act) ≠
      s.act.id.extractLsb' 8 4 &&& (0xF#4 >>> (actNibSh s.act - 4))
    (∃ t, exec .check s = .next t ∧
      (t.result = .error ↔ byteAt rx (actCrcByte s.act) ≠ p11Crc s.tbl s.act rx ∨ idWrong ∨
        (rc.toNat + 16 - s.ctr.toNat) % 16 > s.act.maxDelta.toNat)) ∧
    (idWrong → exec .check s = .next { s with result := .error, resValid := true, err := .noError })

/-- R203: a wrong length, 0 and lengths above `FRAME_MAX` among them, is no failure: `RESULT` is `WRONG_INPUT` (3),
`RES_VALID` is 1, no byte of `FIN` matters and everything else is unchanged. -/
def Obligations.WrongLengthIsWrongInput : Prop :=
  ∀ (s : State) (f : Memory), s.tblValid = true → s.cfgValid = true → s.finLen.toNat ≠ actN s.act →
    exec .check { s with fin := f } =
      .next { s with fin := f, result := .wrongInput, resValid := true, err := .noError } ∧
    statusCode .wrongInput = 3

/-- R206 with the modular distance of R205: the five rows of `classify` in order, as the status of a `CHECK` of a frame of
the right length, and what `maxDelta` 0 and 1 make unreachable. -/
def Obligations.CheckFollowsTheClassification : Prop :=
  (statusCode .error = 1 ∧ statusCode .repeated = 4 ∧ statusCode .ok = 6 ∧ statusCode .okSomeLost = 5) ∧
  ∀ s : State, s.tblValid = true → s.cfgValid = true → s.finLen.toNat = actN s.act →
    let rx := (List.range (actN s.act)).map s.finByte
    let rc := nibGet (byteAt rx (actCtrByte s.act)) (actCtrSh s.act)
    let expd := p11Frame s.tbl s.act rx rc
    let crcGood := byteAt expd (actCrcByte s.act) = byteAt rx (actCrcByte s.act)
    let idGood := s.act.mode = .both ∨
      nibGet (byteAt expd (actNibByte s.act)) (actNibSh s.act) = nibGet (byteAt rx (actNibByte s.act)) (actNibSh s.act)
    let delta := (rc.toNat + 16 - s.ctr.toNat) % 16
    ∃ t, exec .check s = .next t ∧
      (¬ crcGood ∨ ¬ idGood → t.result = .error) ∧
      (crcGood → idGood →
        (delta > s.act.maxDelta.toNat → t.result = .error) ∧
        (delta = 0 → t.result = .repeated) ∧
        (delta ≤ s.act.maxDelta.toNat → delta = 1 → t.result = .ok) ∧
        (delta ≤ s.act.maxDelta.toNat → 2 ≤ delta → t.result = .okSomeLost)) ∧
      (s.act.maxDelta = 0 → t.result = .error ∨ t.result = .repeated) ∧
      (s.act.maxDelta = 1 → t.result ≠ .okSomeLost)

/-- R207: after a `CHECK` that ends `done`, `CTR` is the received counter if the status is `OK` or `OK_SOME_LOST`, is held
on `ERROR`, `REPEATED` and `WRONG_INPUT`, and on `OK` has advanced by one modulo 16; on `REPEATED` the received counter
is `CTR`. -/
def Obligations.CounterMovesOnlyOnAcceptance : Prop :=
  ∀ s t : State, s.tblValid = true → s.cfgValid = true → exec .check s = .next t →
    ((t.result = .ok ∨ t.result = .okSomeLost) → t.ctr = rxCounter s.act (s.finFrame (actN s.act))) ∧
    (t.result = .ok → t.ctr = s.ctr + 1) ∧
    ((t.result = .error ∨ t.result = .repeated ∨ t.result = .wrongInput) → t.ctr = s.ctr) ∧
    (t.result = .repeated → rxCounter s.act (s.finFrame (actN s.act)) = s.ctr) ∧
    t.result ≠ .noNewData ∧ t.result ≠ .wrongSeq

/-- R208: a `CHECK` of a frame that the packer made with the same configuration recomputes the same frame, so that its
status depends on the counter distance alone, in the order of R206. -/
def Obligations.RoundTripDependsOnTheCounterAlone : Prop :=
  ∀ (s : State) (inp : List Byte) (c : Nibble), s.tblValid = true → s.cfgValid = true →
    ActLegal Config.frameMax s.act → LayoutDisjoint s.act → inp.length = actN s.act →
    s.finLen.toNat = actN s.act → s.finFrame (actN s.act) = p11Frame s.tbl s.act inp c →
    ∃ t, exec .check s = .next t ∧ t.err = .noError ∧ t.resValid = true ∧
      rxCounter s.act (s.finFrame (actN s.act)) = c ∧
      p11Frame s.tbl s.act (s.finFrame (actN s.act)) c = s.finFrame (actN s.act) ∧
      t.result = (if c - s.ctr = 0 then .repeated
        else if s.act.maxDelta < c - s.ctr then .error
        else if c - s.ctr = 1 then .ok
        else .okSomeLost)

/-- R209 item 5: under the non-overlap conditions, a frame that differs in exactly one byte from one the packer made is
always `ERROR`, and `CTR` is held. -/
def Obligations.OneWrongByteIsAlwaysError : Prop :=
  ∀ (s : State) (inp : List Byte) (c : Nibble) (k : Nat) (b : Byte), s.tblValid = true → s.cfgValid = true →
    s.tbl = crcTable → ActLegal Config.frameMax s.act → LayoutDisjoint s.act → inp.length = actN s.act →
    s.finLen.toNat = actN s.act → k < actN s.act → b ≠ byteAt (p11Frame s.tbl s.act inp c) k →
    s.finFrame (actN s.act) = (p11Frame s.tbl s.act inp c).set k b →
    exec .check s = .next { s with result := .error, resValid := true, err := .noError }

/-- R209 item 1 and 70_reset_and_hazards.md R268: a `CHECK` of what the same instance has just packed is `ERROR`, the
counter held, in every layout whose counter is not in the CRC byte. -/
def Obligations.OwnOutputIsError : Prop :=
  ∀ (s t u : State), s.tblValid = true → s.cfgValid = true → ActLegal Config.frameMax s.act →
    actCtrByte s.act ≠ actCrcByte s.act → s.finLen.toNat = actN s.act → Memory.wf s.foutDraw s.fout →
    exec .protect s = .next t → u = { t with fin := u.fin } →
    (∀ i, i < actN s.act → u.finByte i = t.foutByte i) →
    exec .check u = .next { u with result := .error, resValid := true, err := .noError }

/-- R209 item 6: an accepted frame presented again is `REPEATED`, and the counter stays. -/
def Obligations.AcceptedFrameAgainIsRepeated : Prop :=
  ∀ s t : State, s.tblValid = true → s.cfgValid = true → exec .check s = .next t →
    (t.result = .ok ∨ t.result = .okSomeLost) →
    exec .check t = .next { t with result := .repeated }

/-! ### The whole machine -/

/-- 10_state.md R36 (b) to (e) at reset, with the memories in canonical form. -/
def Obligations.ResetMeetsTheInvariants : Prop := State.reset.Inv

/-- R36 (b) to (e): every step keeps the invariants: the generated table, a legal active configuration, `FOUT_LEN` within
the buffer, only produced statuses, and the memories canonical and inside the buffers. -/
def Obligations.EveryStepKeepsTheInvariants : Prop :=
  ∀ s t : State, s.Inv → step s = .next t → t.Inv

/-- R36 (g), R24: the three `STATUS` flags never return from 1 to 0 but by a reset. -/
def Obligations.FlagsFallOnlyByReset : Prop :=
  ∀ s t : State, step s = .next t → (∀ rest, s.script ≠ .reset :: rest) → s.flagsKept t

/-- 00_scope.md R12 and 60_exceptions.md R232: for every state and every 32-bit word there is exactly one next state, either
`done` or failed with a code and no other element changed; no command word stops the machine. -/
def Obligations.EveryCommandWordHasOneOutcome : Prop :=
  ∀ (s : State) (w : Word), ∃ t, s.command w = .next t ∧ (t.err = .noError ∨ t = { s with err := t.err })

/-- 60_exceptions.md R236: which command can raise what, and that an undecodable word raises `IllegalCommand` alone. -/
def Obligations.EachCommandRaisesOnlyItsFailures : Prop :=
  (∀ (s t : State) (i : Instr), exec i s = .next t →
    t.err ∈ (match i with
      | .gentbl => [ErrCode.noError]
      | .tblrd _ => [.noError, .noTable]
      | .crc8 _ _ => [.noError, .noTable, .length]
      | .config => [.noError, .cfgDataLen, .cfgRange, .cfgCrcAlign, .cfgBounds, .cfgCtrBit]
      | .protect => [.noError, .noTable, .noConfig, .length]
      | .protect64 => [.noError, .noTable, .noConfig, .length]
      | .check => [.noError, .noTable, .noConfig])) ∧
  (∀ (s t : State) (w : Word) (e : IllegalWord), decode w = .error e → s.command w = .next t →
    t.err = .illegalCommand)

/-- 10_state.md R20, its column "written by": a command writes only the elements that name it there. No command writes
`FIN`, `FIN_LEN`, the staging registers or `V64_IN`. -/
def Obligations.CommandsWriteOnlyTheirElements : Prop :=
  ∀ (i : Instr) (s t : State), exec i s = .next t →
    (∀ k, t.finByte k = s.finByte k) ∧ t.fin = s.fin ∧ t.finLen = s.finLen ∧ t.cfg = s.cfg ∧
    t.v64InLo = s.v64InLo ∧ t.v64InHi = s.v64InHi ∧
    (i ≠ .gentbl → t.tbl = s.tbl ∧ t.tblValid = s.tblValid) ∧
    (i ≠ .config → t.act = s.act ∧ t.cfgValid = s.cfgValid) ∧
    (i ≠ .config → i ≠ .protect → i ≠ .protect64 → i ≠ .check → t.ctr = s.ctr) ∧
    (i ≠ .protect → i ≠ .protect64 →
      (∀ k, t.foutByte k = s.foutByte k) ∧ t.fout = s.fout ∧ t.foutLen = s.foutLen) ∧
    (i ≠ .protect64 → t.v64OutLo = s.v64OutLo ∧ t.v64OutHi = s.v64OutHi) ∧
    ((∀ idx, i ≠ .tblrd idx) → (∀ start first, i ≠ .crc8 start first) → t.dout = s.dout) ∧
    (i ≠ .check → t.result = s.result ∧ t.resValid = s.resValid) ∧
    t.script = s.script ∧ t.resp = s.resp ∧ t.resets = s.resets

/-- 10_state.md R25: `ERR` is overwritten by every command and enters none: what a command does is the same whatever the
last outcome was. -/
def Obligations.OutcomeForgetsEarlierErrors : Prop :=
  ∀ (s : State) (w : Word) (e : ErrCode), State.command { s with err := e } w = s.command w
end

