-- ==== Sys2Proof/Laws/Config.lean ====
section
/-! SUPPORT. The bounds of `FRAME_MAX` (00_scope.md R7), all that any proof can use of it. -/

namespace Sys2Proof

theorem Config.frameMax_ge : 8 ≤ Config.frameMax := by
  unfold Config.frameMax; omega

theorem Config.frameMax_le : Config.frameMax ≤ 4096 := by
  have := Config.frameSpare.isLt
  unfold Config.frameMax; omega

end Sys2Proof
end

