-- ==== Sys2Proof/Laws/Exec.lean ====
section
/-! SUPPORT. What each command, each host event and a step can do, said once: if it answers a next state, one of
these cases holds. -/

namespace Sys2Proof.Machine

variable {s t : State}

theorem execGentbl_cases (h : execGentbl s = .next t) : t = (s.setTable crcTable).done := by
  unfold execGentbl at h
  exact (Host.Outcome.next.inj h).symm

theorem execTblrd_cases {idx : Byte} (h : execTblrd idx s = .next t) :
    (s.tblValid = false ∧ t = s.raise .noTable) ∨
      (s.tblValid = true ∧ t = (s.setDout (s.tbl[idx.toNat]'idx.isLt)).done) := by
  unfold execTblrd at h
  split at h <;> cases h <;> simp_all

theorem execCrc8_cases {start : Byte} (first : Bool) (h : execCrc8 start first s = .next t) :
    (s.tblValid = false ∧ t = s.raise .noTable) ∨
      (s.tblValid = true ∧ Config.frameMax < s.finLen.toNat ∧ t = s.raise .length) ∨
      (s.tblValid = true ∧ s.finLen.toNat ≤ Config.frameMax ∧
        t = (s.setDout (crcRun s.tbl start (s.finFrame s.finLen.toNat))).done) := by
  unfold execCrc8 at h
  repeat' split at h
  all_goals cases h
  all_goals simp_all

theorem execConfig_cases (h : execConfig s = .next t) :
    (∃ e, validate Config.frameMax s.cfg = some e ∧ t = s.raise e) ∨
      (validate Config.frameMax s.cfg = none ∧ t = (s.latch (latched s.cfg)).done) := by
  unfold execConfig at h
  split at h <;> cases h <;> simp_all

theorem execProtect_cases (h : execProtect s = .next t) :
    (s.tblValid = false ∧ t = s.raise .noTable) ∨
      (s.tblValid = true ∧ s.cfgValid = false ∧ t = s.raise .noConfig) ∨
      (s.tblValid = true ∧ s.cfgValid = true ∧ s.finLen.toNat ≠ actN s.act ∧ t = s.raise .length) ∨
      (s.tblValid = true ∧ s.cfgValid = true ∧ s.finLen.toNat = actN s.act ∧
        t = (s.emitFrame (p11Frame s.tbl s.act (s.finFrame (actN s.act)) s.ctr) (actN s.act)).done) := by
  unfold execProtect at h
  repeat' split at h
  all_goals cases h
  all_goals simp_all

theorem execProtect64_cases (h : execProtect64 s = .next t) :
    (s.tblValid = false ∧ t = s.raise .noTable) ∨
      (s.tblValid = true ∧ s.cfgValid = false ∧ t = s.raise .noConfig) ∨
      (s.tblValid = true ∧ s.cfgValid = true ∧ s.act.dataLen ≠ 64 ∧ t = s.raise .length) ∨
      (s.tblValid = true ∧ s.cfgValid = true ∧ s.act.dataLen = 64 ∧
        t = ((s.emitFrame (p11Frame s.tbl s.act (bytesLe s.v64In) s.ctr) 8).setV64Out
          (intLe (p11Frame s.tbl s.act (bytesLe s.v64In) s.ctr))).done) := by
  unfold execProtect64 at h
  repeat' split at h
  all_goals cases h
  all_goals simp_all

theorem execCheck_cases (h : execCheck s = .next t) :
    (s.tblValid = false ∧ t = s.raise .noTable) ∨
      (s.tblValid = true ∧ s.cfgValid = false ∧ t = s.raise .noConfig) ∨
      (s.tblValid = true ∧ s.cfgValid = true ∧ s.finLen.toNat ≠ actN s.act ∧
        t = (s.report .wrongInput).done) ∨
      (s.tblValid = true ∧ s.cfgValid = true ∧ s.finLen.toNat = actN s.act ∧
        t = ((s.report (frameStatus s.tbl s.act s.ctr (s.finFrame (actN s.act)))).resync
          (frameStatus s.tbl s.act s.ctr (s.finFrame (actN s.act)))
          (rxCounter s.act (s.finFrame (actN s.act)))).done) := by
  unfold execCheck at h
  repeat' split at h
  all_goals cases h
  all_goals simp_all

/-- A command word written to `CMD` (30_encoding.md R90, R94). -/
theorem State.command_cases {w : Word} (h : s.command w = .next t) :
    (∃ i, decode w = .ok i ∧ exec i s = .next t) ∨
      ((∃ e, decode w = .error e) ∧ t = s.raise .illegalCommand) := by
  unfold State.command at h
  split at h
  · exact .inl ⟨_, ‹_›, h⟩
  · cases h
    exact .inr ⟨⟨_, ‹_›⟩, rfl⟩

/-- A write of a read-write register (20_memory.md R63). -/
theorem State.storeReg_cases {v : Word} {r : Reg} (h : s.storeReg v r = some t) :
    t = { s with finLen := t.finLen, cfg := t.cfg, v64InLo := t.v64InLo, v64InHi := t.v64InHi } := by
  cases r <;> cases h <;> rfl

/-- What a host write can do (20_memory.md R63 to R66). -/
theorem State.portWrite_cases {addr n : Nat} {v : Word} (h : s.portWrite addr n v = .next t) :
    (locate Config.frameMax addr n = some (.reg .cmd) ∧ (s.answer .written).command v = .next t) ∨
      (∃ r u, locate Config.frameMax addr n = some (.reg r) ∧ s.storeReg v r = some u ∧
        t = u.answer .written) ∨
      (∃ i, locate Config.frameMax addr n = some (.fin i) ∧
        t = (s.putFin i (v.extractLsb' 0 8)).answer .written) ∨
      t = s.answer .busError := by
  unfold State.portWrite at h
  split at h
  · exact .inl ⟨‹_›, h⟩
  · split at h <;> cases h
    · exact .inr (.inl ⟨_, _, ‹_›, ‹_›, rfl⟩)
    · exact .inr (.inr (.inr rfl))
  · cases h
    exact .inr (.inr (.inl ⟨_, ‹_›, rfl⟩))
  · cases h
    exact .inr (.inr (.inr rfl))
  · cases h
    exact .inr (.inr (.inr rfl))

/-- What an access can name (20_memory.md R61 to R64). -/
theorem locate_cases {frameMax addr n : Nat} {l : Location} (h : locate frameMax addr n = some l) :
    (∃ r, n = 4 ∧ regAt addr = some r ∧ l = .reg r) ∨
      (∃ i, n = 1 ∧ i < frameMax ∧ addr = 0x1000 + i ∧ l = .fin i) ∨
      (∃ i, n = 1 ∧ i < frameMax ∧ addr = 0x2000 + i ∧ l = .fout i) := by
  unfold locate at h
  split at h
  · obtain ⟨r, hr, rfl⟩ := Option.map_eq_some_iff.mp h
    exact .inl ⟨r, ‹_›, hr, rfl⟩
  · split at h
    · split at h
      · exact .inr (.inl ⟨addr - 0x1000, ‹_›, by omega, by omega, (Option.some.inj h).symm⟩)
      · split at h
        · exact .inr (.inr ⟨addr - 0x2000, ‹_›, by omega, by omega, (Option.some.inj h).symm⟩)
        · cases h
    · cases h

/-- What a step can do: idle, or the next event of the host's stream. -/
theorem step_cases (h : step s = .next t) :
    (s.script = [] ∧ t = s) ∨
      (∃ addr n rest, s.script = .access (.read addr n) :: rest ∧
        t = (s.setScript rest).answer ((s.setScript rest).portRead addr n)) ∨
      (∃ addr n v rest, s.script = .access (.write addr n v) :: rest ∧
        (s.setScript rest).portWrite addr n v = .next t) ∨
      (∃ rest, s.script = .reset :: rest ∧ t = State.afterReset (s.resets + 1) rest) := by
  unfold step State.hostStep at h
  split at h
  · cases h
    exact .inl ⟨‹_›, rfl⟩
  · rename_i e rest hs
    cases e with
    | access a =>
      cases a with
      | read addr n =>
        cases h
        exact .inr (.inl ⟨addr, n, rest, hs, rfl⟩)
      | write addr n v => exact .inr (.inr (.inl ⟨addr, n, v, rest, hs, h⟩))
    | reset =>
      cases h
      exact .inr (.inr (.inr ⟨rest, hs, rfl⟩))
    | simultaneous a b => cases h

end Sys2Proof.Machine
end

