-- ==== Sys2Proof/Laws/Frame.lean ====
section
/-! SUPPORT. The laws of the CRC run and of the frame operations: lengths, bytes read back, what each step of the
frame transform leaves alone. -/

namespace Sys2Proof.Machine

/-! ### The running register -/

@[simp] theorem crcRun_nil (tbl : Vector Byte 256) (r : Byte) : crcRun tbl r [] = r := rfl

@[simp] theorem crcRun_cons (tbl : Vector Byte 256) (r b : Byte) (bs : List Byte) :
    crcRun tbl r (b :: bs) = crcRun tbl (crcStep tbl r b) bs := rfl

/-- An entry of the generated table (40_crc_engine.md R126). -/
theorem crcTable_getElem {i : Nat} (h : i < 256) : crcTable[i] = tableEntry (BitVec.ofNat 8 i) := by
  delta crcTable
  rw [Vector.getElem_ofFn]

/-- The step over the generated table (R123). -/
theorem crcStep_crcTable (r b : Byte) : crcStep crcTable r b = tableEntry (r ^^^ b) := by
  rw [crcStep, crcTable_getElem, BitVec.ofNat_toNat, BitVec.setWidth_eq]

/-! ### Bytes of a frame -/

theorem byteAt_of_lt {f : List Byte} {i : Nat} (h : i < f.length) : byteAt f i = f[i] := by
  simp [byteAt, h]

theorem byteAt_set_same {f : List Byte} {i : Nat} (h : i < f.length) (b : Byte) :
    byteAt (f.set i b) i = b := by
  rw [byteAt_of_lt (by simpa using h)]
  simp

theorem byteAt_set_other (f : List Byte) {i j : Nat} (h : i ≠ j) (b : Byte) :
    byteAt (f.set i b) j = byteAt f j := by
  simp [byteAt, List.getD_eq_getElem?_getD, h]

/-- Frames of one length that agree byte by byte are equal. -/
theorem frame_ext {f g : List Byte} (hl : f.length = g.length) (h : ∀ i, i < f.length → byteAt f i = byteAt g i) :
    f = g :=
  List.ext_getElem hl fun i hf hg => by
    rw [← byteAt_of_lt hf, ← byteAt_of_lt hg]
    exact h i hf

@[simp] theorem putIdNibble_length (c : ActConfig) (f : List Byte) : (putIdNibble c f).length = f.length := by
  unfold putIdNibble; split <;> simp

@[simp] theorem putCounter_length (c : ActConfig) (f : List Byte) (ctr : Nibble) :
    (putCounter c f ctr).length = f.length := by
  simp [putCounter]

@[simp] theorem putCrc_length (tbl : Vector Byte 256) (c : ActConfig) (f : List Byte) :
    (putCrc tbl c f).length = f.length := by
  simp [putCrc]

@[simp] theorem p11Frame_length (tbl : Vector Byte 256) (c : ActConfig) (f : List Byte) (ctr : Nibble) :
    (p11Frame tbl c f ctr).length = f.length := by
  simp [p11Frame]

/-- Step 2 in mode `BOTH` (42_protect.md R173): nothing. -/
theorem putIdNibble_both {c : ActConfig} (h : c.mode = .both) (f : List Byte) : putIdNibble c f = f := by
  simp [putIdNibble, h]

/-- Step 2 in mode `DATA_ID_NIBBLE` (R173). -/
theorem putIdNibble_nibble {c : ActConfig} (h : c.mode = .dataIdNibble) (f : List Byte) :
    putIdNibble c f =
      f.set (actNibByte c) (nibPut (byteAt f (actNibByte c)) (actNibSh c) (actIdNib c)) := by
  simp [putIdNibble, h]

/-- What step 2 leaves alone. -/
theorem byteAt_putIdNibble_other {c : ActConfig} (f : List Byte) {i : Nat}
    (h : c.mode = .dataIdNibble → actNibByte c ≠ i) : byteAt (putIdNibble c f) i = byteAt f i := by
  cases hm : c.mode with
  | both => rw [putIdNibble_both hm]
  | dataIdNibble => rw [putIdNibble_nibble hm, byteAt_set_other _ (h hm)]

/-- What step 3 leaves alone. -/
theorem byteAt_putCounter_other (c : ActConfig) (f : List Byte) (ctr : Nibble) {i : Nat}
    (h : actCtrByte c ≠ i) : byteAt (putCounter c f ctr) i = byteAt f i :=
  byteAt_set_other _ h _

/-- What step 5 leaves alone. -/
theorem byteAt_putCrc_other (tbl : Vector Byte 256) (c : ActConfig) (f : List Byte) {i : Nat}
    (h : actCrcByte c ≠ i) : byteAt (putCrc tbl c f) i = byteAt f i :=
  byteAt_set_other _ h _

/-- A byte removed before the checksum does not enter it (R174). -/
theorem eraseIdx_set_same (f : List Byte) (i : Nat) (b : Byte) : (f.set i b).eraseIdx i = f.eraseIdx i :=
  List.eraseIdx_set_eq

/-- Step 4 does not see the CRC byte (R173, R174). -/
theorem p11Crc_set_crcByte (tbl : Vector Byte 256) (c : ActConfig) (f : List Byte) (b : Byte) :
    p11Crc tbl c (f.set (actCrcByte c) b) = p11Crc tbl c f := by
  simp [p11Crc, eraseIdx_set_same]

/-- Every bit of `nib_put` (42_protect.md R170): the nibble's inside the field, the byte's outside it. -/
theorem nibPut_getLsbD (b : Byte) (s : Nat) (v : Nibble) {i : Nat} (hi : i < 8) :
    (nibPut b s v).getLsbD i = if s ≤ i ∧ i < s + 4 then v.getLsbD (i - s) else b.getLsbD i := by
  have hm : ∀ j, (0x0F#8).getLsbD j = decide (j < 4) := fun j => by
    by_cases h : j < 8
    · revert j
      decide
    · rw [BitVec.getLsbD_of_ge _ _ (by omega)]
      simp
      omega
  unfold nibPut
  rw [BitVec.getLsbD_or, BitVec.getLsbD_and, BitVec.getLsbD_not, BitVec.getLsbD_shiftLeft, BitVec.getLsbD_shiftLeft,
    BitVec.getLsbD_setWidth, hm]
  by_cases h1 : s ≤ i
  · by_cases h2 : i < s + 4
    · simp [hi, h1, h2, show ¬ i < s by omega, show i - s < 4 by omega, show i - s < 8 by omega]
    · have := BitVec.getLsbD_of_ge v (i - s) (by omega)
      simp [hi, h1, h2, show ¬ i < s by omega, show ¬ i - s < 4 by omega, this]
  · simp [hi, h1, show i < s by omega]

/-- Every bit of `nib_get` (R171). -/
theorem nibGet_getLsbD (b : Byte) (s : Nat) {i : Nat} (hi : i < 4) :
    (nibGet b s).getLsbD i = b.getLsbD (s + i) := by
  unfold nibGet
  rw [BitVec.getLsbD_setWidth, BitVec.getLsbD_ushiftRight]
  simp [hi]

/-- The checksum depends on the bytes outside the CRC byte alone (R174). -/
theorem p11Crc_congr (tbl : Vector Byte 256) (c : ActConfig) {f g : List Byte} (hl : f.length = g.length)
    (h : ∀ i, i < f.length → i ≠ actCrcByte c → byteAt f i = byteAt g i) : p11Crc tbl c f = p11Crc tbl c g := by
  rw [← p11Crc_set_crcByte tbl c f 0, ← p11Crc_set_crcByte tbl c g 0]
  congr 1
  refine frame_ext (by simpa using hl) fun i hi => ?_
  simp only [List.length_set] at hi
  by_cases hc : actCrcByte c = i
  · subst hc
    rw [byteAt_set_same hi, byteAt_set_same (hl ▸ hi)]
  · rw [byteAt_set_other _ hc, byteAt_set_other _ hc]
    exact h i hi (Ne.symm hc)

/-- Every byte of the frame transform (R173): the checksum in the CRC byte, what steps 2 and 3 left elsewhere. -/
theorem byteAt_p11Frame (tbl : Vector Byte 256) (c : ActConfig) {f : List Byte} (ctr : Nibble) {i : Nat}
    (h : i < f.length) :
    byteAt (p11Frame tbl c f ctr) i =
      if i = actCrcByte c then p11Crc tbl c (putCounter c (putIdNibble c f) ctr)
      else byteAt (putCounter c (putIdNibble c f) ctr) i := by
  unfold p11Frame
  split
  · rename_i hc
    subst hc
    exact byteAt_set_same (by simpa using h) _
  · exact byteAt_putCrc_other _ _ _ (Ne.symm ‹_›)

/-- Every byte after steps 2 and 3 (R173). -/
theorem byteAt_putCounter_putIdNibble (c : ActConfig) {f : List Byte} (ctr : Nibble) {i : Nat} (h : i < f.length) :
    byteAt (putCounter c (putIdNibble c f) ctr) i =
      let b := if c.mode = .dataIdNibble ∧ actNibByte c = i then nibPut (byteAt f i) (actNibSh c) (actIdNib c)
        else byteAt f i
      if actCtrByte c = i then nibPut b (actCtrSh c) ctr else b := by
  have hid : byteAt (putIdNibble c f) i =
      if c.mode = .dataIdNibble ∧ actNibByte c = i then nibPut (byteAt f i) (actNibSh c) (actIdNib c)
      else byteAt f i := by
    split
    · rename_i hn
      rw [putIdNibble_nibble hn.1, hn.2, byteAt_set_same h]
    · rename_i hn
      exact byteAt_putIdNibble_other _ fun hm he => hn ⟨hm, he⟩
  rw [← hid]
  unfold putCounter
  dsimp only
  split
  · rename_i hc
    rw [hc, byteAt_set_same (by simpa using h)]
  · exact byteAt_set_other _ ‹_› _

/-! ### Classification -/

/-- The five results of `classify` (43_check.md R206). -/
theorem classify_cases (crcGood idGood : Bool) (delta maxDelta : Nibble) :
    (classify crcGood idGood delta maxDelta = .error ∧
        (crcGood = false ∨ idGood = false ∨ maxDelta < delta)) ∨
      (crcGood = true ∧ idGood = true ∧ ¬ maxDelta < delta ∧
        ((classify crcGood idGood delta maxDelta = .repeated ∧ delta = 0) ∨
          (classify crcGood idGood delta maxDelta = .ok ∧ delta = 1) ∨
          (classify crcGood idGood delta maxDelta = .okSomeLost ∧ delta ≠ 0 ∧ delta ≠ 1))) := by
  unfold classify
  split
  · rename_i h
    exact .inl ⟨rfl, h.imp_right .inl⟩
  · rename_i h
    simp only [not_or, Bool.not_eq_false] at h
    split
    · exact .inl ⟨rfl, .inr (.inr ‹_›)⟩
    · refine .inr ⟨h.1, h.2, ‹_›, ?_⟩
      split
      · exact .inl ⟨rfl, ‹_›⟩
      · split
        · exact .inr (.inl ⟨rfl, ‹_›⟩)
        · exact .inr (.inr ⟨rfl, ‹_›, ‹_›⟩)

end Sys2Proof.Machine
end

