-- ==== Sys2Proof/Laws/Memory.lean ====
section
/-! SUPPORT. The laws of the byte memories: a read after a write, the canonical form kept by every operation,
and canonical memories equal when they read alike. -/

namespace Sys2Proof.Machine

variable {dflt : Nat → Byte}

/-- A read at an index below every listed one gives the unlisted value. -/
theorem Memory.read_of_lt {m : Memory} {a : Nat} (h : ∀ c ∈ m, a < c.1) : m.read dflt a = dflt a := by
  induction m with
  | nil => rfl
  | cons c m ih =>
    have hc : a < c.1 := h c (by simp)
    rw [Memory.read, if_neg (by omega)]
    exact ih fun d hd => h d (by simp [hd])

@[simp] theorem Memory.read_nil (a : Nat) : Memory.read dflt [] a = dflt a := rfl

theorem Memory.read_write_same {m : Memory} (hm : m.wf dflt) (a : Nat) (b : Byte) :
    (m.write dflt a b).read dflt a = b := by
  induction m with
  | nil =>
    rw [Memory.write]
    split <;> simp_all [Memory.read]
  | cons c m ih =>
    obtain ⟨hs, hd⟩ := hm
    obtain ⟨hlt, hs⟩ := List.pairwise_cons.mp hs
    rw [Memory.write]
    split
    · rw [Memory.read, if_neg (by omega)]
      exact ih ⟨hs, fun d h => hd d (by simp [h])⟩
    · split
      · rename_i hb
        split
        · rw [Memory.read_of_lt fun d h => by have := hlt d h; omega, hb]
        · rw [Memory.read, if_neg ‹_›, Memory.read_of_lt fun d h => by have := hlt d h; omega, hb]
      · split <;> simp [Memory.read]

theorem Memory.read_write_other {m : Memory} {a a' : Nat} (h : a' ≠ a) (b : Byte) :
    (m.write dflt a b).read dflt a' = m.read dflt a' := by
  induction m with
  | nil =>
    rw [Memory.write]
    split
    · rfl
    · simp [Memory.read, Ne.symm h]
  | cons c m ih =>
    rw [Memory.write]
    split
    · simp only [Memory.read, ih]
    · split
      · split
        · simp only [Memory.read]
          rw [if_neg (by omega)]
        · rfl
      · split
        · simp only [Memory.read]
          rw [if_neg (Ne.symm h), if_neg (by omega)]
        · simp only [Memory.read]
          rw [if_neg (Ne.symm h)]

theorem Memory.read_write {m : Memory} (hm : m.wf dflt) (a a' : Nat) (b : Byte) :
    (m.write dflt a b).read dflt a' = if a' = a then b else m.read dflt a' := by
  split
  · rename_i h
    rw [h, Memory.read_write_same hm]
  · exact Memory.read_write_other ‹_› b

/-- Every entry after a write is an old one or the one written. -/
theorem Memory.mem_write {m : Memory} {a : Nat} {b : Byte} {c : Host.Cell} (h : c ∈ m.write dflt a b) :
    c ∈ m ∨ (c = (a, b) ∧ b ≠ dflt a) := by
  induction m with
  | nil =>
    rw [Memory.write] at h
    split at h <;> simp_all
  | cons d m ih =>
    rw [Memory.write] at h
    split at h
    · rcases List.mem_cons.mp h with rfl | h
      · exact .inl (by simp)
      · exact (ih h).imp_left fun h => by simp [h]
    · split at h
      · split at h
        · exact .inl (by simp [h])
        · exact .inl h
      · split at h <;> rcases List.mem_cons.mp h with rfl | h
        · exact .inr ⟨rfl, ‹_›⟩
        · exact .inl (by simp [h])
        · exact .inr ⟨rfl, ‹_›⟩
        · exact .inl h

theorem Memory.write_wf {m : Memory} (hm : m.wf dflt) (a : Nat) (b : Byte) : (m.write dflt a b).wf dflt := by
  refine ⟨?_, fun c hc => ?_⟩
  · obtain ⟨hs, -⟩ := hm
    induction m with
    | nil =>
      rw [Memory.write]
      split <;> simp
    | cons c m ih =>
      obtain ⟨hlt, hs'⟩ := List.pairwise_cons.mp hs
      rw [Memory.write]
      split
      · refine List.pairwise_cons.mpr ⟨fun d hd => ?_, ih hs'⟩
        rcases Memory.mem_write hd with hd | ⟨rfl, -⟩
        · exact hlt d hd
        · assumption
      · split
        · split
          · exact hs'
          · exact hs
        · split
          · exact List.pairwise_cons.mpr ⟨fun d hd => by have := hlt d hd; simp only; omega, hs'⟩
          · refine List.pairwise_cons.mpr ⟨fun d hd => ?_, hs⟩
            rcases List.mem_cons.mp hd with rfl | hd
            · simp only; omega
            · have := hlt d hd
              simp only; omega
  · rcases Memory.mem_write hc with hc | ⟨rfl, hb⟩
    · exact hm.2 c hc
    · exact hb

theorem Memory.writeFrom_wf {m : Memory} (hm : m.wf dflt) (a : Nat) (bs : List Byte) :
    (m.writeFrom dflt a bs).wf dflt := by
  induction bs generalizing m a with
  | nil => exact hm
  | cons b bs ih => exact ih (Memory.write_wf hm a b) (a + 1)

/-- A run of writes changes exactly the bytes it covers. -/
theorem Memory.read_writeFrom {m : Memory} (hm : m.wf dflt) (a a' : Nat) (bs : List Byte) :
    (m.writeFrom dflt a bs).read dflt a' =
      if a ≤ a' then bs.getD (a' - a) (m.read dflt a') else m.read dflt a' := by
  induction bs generalizing m a with
  | nil => simp [Memory.writeFrom]
  | cons b bs ih =>
    rw [Memory.writeFrom, ih (Memory.write_wf hm a b), Memory.read_write hm]
    rcases Nat.lt_trichotomy a' a with h | rfl | h
    · rw [if_neg (by omega), if_neg (by omega), if_neg (by omega)]
    · rw [if_neg (by omega), if_pos rfl, if_pos le_rfl]
      simp
    · obtain ⟨k, rfl⟩ : ∃ k, a' = a + 1 + k := ⟨a' - (a + 1), by omega⟩
      rw [if_pos (by omega), if_neg (by omega), if_pos (by omega)]
      rw [show a + 1 + k - (a + 1) = k by omega, show a + 1 + k - a = k + 1 by omega]
      simp

/-- A byte that a run of writes does not cover, in any memory. -/
theorem Memory.read_writeFrom_outside {m : Memory} {a a' : Nat} {bs : List Byte}
    (h : a' < a ∨ a + bs.length ≤ a') : (m.writeFrom dflt a bs).read dflt a' = m.read dflt a' := by
  induction bs generalizing m a with
  | nil => rfl
  | cons b bs ih =>
    simp only [List.length_cons] at h
    rw [Memory.writeFrom, ih (by omega), Memory.read_write_other (by omega)]

/-- Every entry after a run of writes is an old one or lies in the run. -/
theorem Memory.mem_writeFrom {m : Memory} {a : Nat} {bs : List Byte} {c : Host.Cell}
    (h : c ∈ m.writeFrom dflt a bs) : c ∈ m ∨ c.1 < a + bs.length := by
  induction bs generalizing m a with
  | nil => exact .inl h
  | cons b bs ih =>
    simp only [List.length_cons]
    rcases ih h with h | h
    · rcases Memory.mem_write h with h | ⟨rfl, -⟩
      · exact .inl h
      · exact .inr (by simp only; omega)
    · exact .inr (by omega)

/-- Canonical memories that read alike are the same data. -/
theorem Memory.ext_of_wf {m m' : Memory} (hm : m.wf dflt) (hm' : m'.wf dflt)
    (h : ∀ a, m.read dflt a = m'.read dflt a) : m = m' := by
  induction m generalizing m' with
  | nil =>
    cases m' with
    | nil => rfl
    | cons c m' =>
      have := h c.1
      rw [Memory.read_nil, Memory.read, if_pos rfl] at this
      exact absurd this.symm (hm'.2 c (by simp))
  | cons c m ih =>
    obtain ⟨hlt, hs⟩ := List.pairwise_cons.mp hm.1
    cases m' with
    | nil =>
      have := h c.1
      rw [Memory.read_nil, Memory.read, if_pos rfl] at this
      exact absurd this (hm.2 c (by simp))
    | cons d m' =>
      obtain ⟨hlt', hs'⟩ := List.pairwise_cons.mp hm'.1
      have hcd : c.1 = d.1 := by
        rcases Nat.lt_trichotomy c.1 d.1 with hl | he | hl
        · have := h c.1
          rw [Memory.read, if_pos rfl, Memory.read, if_neg (by omega),
            Memory.read_of_lt fun e he => hl.trans (hlt' e he)] at this
          exact absurd this (hm.2 c (by simp))
        · exact he
        · have := h d.1
          rw [Memory.read, if_neg (by omega), Memory.read, if_pos rfl,
            Memory.read_of_lt fun e he => hl.trans (hlt e he)] at this
          exact absurd this.symm (hm'.2 d (by simp))
      have hv : c.2 = d.2 := by
        have := h c.1
        rwa [Memory.read, if_pos rfl, Memory.read, if_pos hcd.symm] at this
      have hc : c = d := Prod.ext hcd hv
      subst hc
      congr 1
      refine ih ⟨hs, fun e he => hm.2 e (by simp [he])⟩ ⟨hs', fun e he => hm'.2 e (by simp [he])⟩ fun a => ?_
      by_cases ha : c.1 = a
      · subst ha
        rw [Memory.read_of_lt hlt, Memory.read_of_lt hlt']
      · have := h a
        rwa [Memory.read, if_neg ha, Memory.read, if_neg ha] at this

end Sys2Proof.Machine
end

