-- ==== Sys2Proof/Laws/State.lean ====
section
/-! SUPPORT. What each named update of State does to each field: one lemma per field per update, so that no later
proof unfolds a record update. -/

namespace Sys2Proof.Machine

variable (s : State)

/-! ### `State.putFin` -/

@[simp] theorem State.putFin_tbl (i : Nat) (b : Byte) : (s.putFin i b).tbl = s.tbl := rfl
@[simp] theorem State.putFin_tblValid (i : Nat) (b : Byte) : (s.putFin i b).tblValid = s.tblValid := rfl
@[simp] theorem State.putFin_cfg (i : Nat) (b : Byte) : (s.putFin i b).cfg = s.cfg := rfl
@[simp] theorem State.putFin_act (i : Nat) (b : Byte) : (s.putFin i b).act = s.act := rfl
@[simp] theorem State.putFin_cfgValid (i : Nat) (b : Byte) : (s.putFin i b).cfgValid = s.cfgValid := rfl
@[simp] theorem State.putFin_ctr (i : Nat) (b : Byte) : (s.putFin i b).ctr = s.ctr := rfl
@[simp] theorem State.putFin_fin (i : Nat) (b : Byte) : (s.putFin i b).fin = s.fin.write s.finDraw i b := rfl
@[simp] theorem State.putFin_finLen (i : Nat) (b : Byte) : (s.putFin i b).finLen = s.finLen := rfl
@[simp] theorem State.putFin_fout (i : Nat) (b : Byte) : (s.putFin i b).fout = s.fout := rfl
@[simp] theorem State.putFin_foutLen (i : Nat) (b : Byte) : (s.putFin i b).foutLen = s.foutLen := rfl
@[simp] theorem State.putFin_v64InLo (i : Nat) (b : Byte) : (s.putFin i b).v64InLo = s.v64InLo := rfl
@[simp] theorem State.putFin_v64InHi (i : Nat) (b : Byte) : (s.putFin i b).v64InHi = s.v64InHi := rfl
@[simp] theorem State.putFin_v64OutLo (i : Nat) (b : Byte) : (s.putFin i b).v64OutLo = s.v64OutLo := rfl
@[simp] theorem State.putFin_v64OutHi (i : Nat) (b : Byte) : (s.putFin i b).v64OutHi = s.v64OutHi := rfl
@[simp] theorem State.putFin_dout (i : Nat) (b : Byte) : (s.putFin i b).dout = s.dout := rfl
@[simp] theorem State.putFin_result (i : Nat) (b : Byte) : (s.putFin i b).result = s.result := rfl
@[simp] theorem State.putFin_resValid (i : Nat) (b : Byte) : (s.putFin i b).resValid = s.resValid := rfl
@[simp] theorem State.putFin_err (i : Nat) (b : Byte) : (s.putFin i b).err = s.err := rfl
@[simp] theorem State.putFin_script (i : Nat) (b : Byte) : (s.putFin i b).script = s.script := rfl
@[simp] theorem State.putFin_resp (i : Nat) (b : Byte) : (s.putFin i b).resp = s.resp := rfl
@[simp] theorem State.putFin_resets (i : Nat) (b : Byte) : (s.putFin i b).resets = s.resets := rfl

/-! ### `State.putFout` -/

@[simp] theorem State.putFout_tbl (out : List Byte) : (s.putFout out).tbl = s.tbl := rfl
@[simp] theorem State.putFout_tblValid (out : List Byte) : (s.putFout out).tblValid = s.tblValid := rfl
@[simp] theorem State.putFout_cfg (out : List Byte) : (s.putFout out).cfg = s.cfg := rfl
@[simp] theorem State.putFout_act (out : List Byte) : (s.putFout out).act = s.act := rfl
@[simp] theorem State.putFout_cfgValid (out : List Byte) : (s.putFout out).cfgValid = s.cfgValid := rfl
@[simp] theorem State.putFout_ctr (out : List Byte) : (s.putFout out).ctr = s.ctr := rfl
@[simp] theorem State.putFout_fin (out : List Byte) : (s.putFout out).fin = s.fin := rfl
@[simp] theorem State.putFout_finLen (out : List Byte) : (s.putFout out).finLen = s.finLen := rfl
@[simp] theorem State.putFout_fout (out : List Byte) : (s.putFout out).fout = s.fout.writeFrom s.foutDraw 0 out := rfl
@[simp] theorem State.putFout_foutLen (out : List Byte) : (s.putFout out).foutLen = s.foutLen := rfl
@[simp] theorem State.putFout_v64InLo (out : List Byte) : (s.putFout out).v64InLo = s.v64InLo := rfl
@[simp] theorem State.putFout_v64InHi (out : List Byte) : (s.putFout out).v64InHi = s.v64InHi := rfl
@[simp] theorem State.putFout_v64OutLo (out : List Byte) : (s.putFout out).v64OutLo = s.v64OutLo := rfl
@[simp] theorem State.putFout_v64OutHi (out : List Byte) : (s.putFout out).v64OutHi = s.v64OutHi := rfl
@[simp] theorem State.putFout_dout (out : List Byte) : (s.putFout out).dout = s.dout := rfl
@[simp] theorem State.putFout_result (out : List Byte) : (s.putFout out).result = s.result := rfl
@[simp] theorem State.putFout_resValid (out : List Byte) : (s.putFout out).resValid = s.resValid := rfl
@[simp] theorem State.putFout_err (out : List Byte) : (s.putFout out).err = s.err := rfl
@[simp] theorem State.putFout_script (out : List Byte) : (s.putFout out).script = s.script := rfl
@[simp] theorem State.putFout_resp (out : List Byte) : (s.putFout out).resp = s.resp := rfl
@[simp] theorem State.putFout_resets (out : List Byte) : (s.putFout out).resets = s.resets := rfl

/-! ### `State.raise` -/

@[simp] theorem State.raise_tbl (e : ErrCode) : (s.raise e).tbl = s.tbl := rfl
@[simp] theorem State.raise_tblValid (e : ErrCode) : (s.raise e).tblValid = s.tblValid := rfl
@[simp] theorem State.raise_cfg (e : ErrCode) : (s.raise e).cfg = s.cfg := rfl
@[simp] theorem State.raise_act (e : ErrCode) : (s.raise e).act = s.act := rfl
@[simp] theorem State.raise_cfgValid (e : ErrCode) : (s.raise e).cfgValid = s.cfgValid := rfl
@[simp] theorem State.raise_ctr (e : ErrCode) : (s.raise e).ctr = s.ctr := rfl
@[simp] theorem State.raise_fin (e : ErrCode) : (s.raise e).fin = s.fin := rfl
@[simp] theorem State.raise_finLen (e : ErrCode) : (s.raise e).finLen = s.finLen := rfl
@[simp] theorem State.raise_fout (e : ErrCode) : (s.raise e).fout = s.fout := rfl
@[simp] theorem State.raise_foutLen (e : ErrCode) : (s.raise e).foutLen = s.foutLen := rfl
@[simp] theorem State.raise_v64InLo (e : ErrCode) : (s.raise e).v64InLo = s.v64InLo := rfl
@[simp] theorem State.raise_v64InHi (e : ErrCode) : (s.raise e).v64InHi = s.v64InHi := rfl
@[simp] theorem State.raise_v64OutLo (e : ErrCode) : (s.raise e).v64OutLo = s.v64OutLo := rfl
@[simp] theorem State.raise_v64OutHi (e : ErrCode) : (s.raise e).v64OutHi = s.v64OutHi := rfl
@[simp] theorem State.raise_dout (e : ErrCode) : (s.raise e).dout = s.dout := rfl
@[simp] theorem State.raise_result (e : ErrCode) : (s.raise e).result = s.result := rfl
@[simp] theorem State.raise_resValid (e : ErrCode) : (s.raise e).resValid = s.resValid := rfl
@[simp] theorem State.raise_err (e : ErrCode) : (s.raise e).err = e := rfl
@[simp] theorem State.raise_script (e : ErrCode) : (s.raise e).script = s.script := rfl
@[simp] theorem State.raise_resp (e : ErrCode) : (s.raise e).resp = s.resp := rfl
@[simp] theorem State.raise_resets (e : ErrCode) : (s.raise e).resets = s.resets := rfl

/-! ### `State.done` -/

@[simp] theorem State.done_tbl : (s.done).tbl = s.tbl := rfl
@[simp] theorem State.done_tblValid : (s.done).tblValid = s.tblValid := rfl
@[simp] theorem State.done_cfg : (s.done).cfg = s.cfg := rfl
@[simp] theorem State.done_act : (s.done).act = s.act := rfl
@[simp] theorem State.done_cfgValid : (s.done).cfgValid = s.cfgValid := rfl
@[simp] theorem State.done_ctr : (s.done).ctr = s.ctr := rfl
@[simp] theorem State.done_fin : (s.done).fin = s.fin := rfl
@[simp] theorem State.done_finLen : (s.done).finLen = s.finLen := rfl
@[simp] theorem State.done_fout : (s.done).fout = s.fout := rfl
@[simp] theorem State.done_foutLen : (s.done).foutLen = s.foutLen := rfl
@[simp] theorem State.done_v64InLo : (s.done).v64InLo = s.v64InLo := rfl
@[simp] theorem State.done_v64InHi : (s.done).v64InHi = s.v64InHi := rfl
@[simp] theorem State.done_v64OutLo : (s.done).v64OutLo = s.v64OutLo := rfl
@[simp] theorem State.done_v64OutHi : (s.done).v64OutHi = s.v64OutHi := rfl
@[simp] theorem State.done_dout : (s.done).dout = s.dout := rfl
@[simp] theorem State.done_result : (s.done).result = s.result := rfl
@[simp] theorem State.done_resValid : (s.done).resValid = s.resValid := rfl
@[simp] theorem State.done_err : (s.done).err = .noError := rfl
@[simp] theorem State.done_script : (s.done).script = s.script := rfl
@[simp] theorem State.done_resp : (s.done).resp = s.resp := rfl
@[simp] theorem State.done_resets : (s.done).resets = s.resets := rfl

/-! ### `State.setDout` -/

@[simp] theorem State.setDout_tbl (b : Byte) : (s.setDout b).tbl = s.tbl := rfl
@[simp] theorem State.setDout_tblValid (b : Byte) : (s.setDout b).tblValid = s.tblValid := rfl
@[simp] theorem State.setDout_cfg (b : Byte) : (s.setDout b).cfg = s.cfg := rfl
@[simp] theorem State.setDout_act (b : Byte) : (s.setDout b).act = s.act := rfl
@[simp] theorem State.setDout_cfgValid (b : Byte) : (s.setDout b).cfgValid = s.cfgValid := rfl
@[simp] theorem State.setDout_ctr (b : Byte) : (s.setDout b).ctr = s.ctr := rfl
@[simp] theorem State.setDout_fin (b : Byte) : (s.setDout b).fin = s.fin := rfl
@[simp] theorem State.setDout_finLen (b : Byte) : (s.setDout b).finLen = s.finLen := rfl
@[simp] theorem State.setDout_fout (b : Byte) : (s.setDout b).fout = s.fout := rfl
@[simp] theorem State.setDout_foutLen (b : Byte) : (s.setDout b).foutLen = s.foutLen := rfl
@[simp] theorem State.setDout_v64InLo (b : Byte) : (s.setDout b).v64InLo = s.v64InLo := rfl
@[simp] theorem State.setDout_v64InHi (b : Byte) : (s.setDout b).v64InHi = s.v64InHi := rfl
@[simp] theorem State.setDout_v64OutLo (b : Byte) : (s.setDout b).v64OutLo = s.v64OutLo := rfl
@[simp] theorem State.setDout_v64OutHi (b : Byte) : (s.setDout b).v64OutHi = s.v64OutHi := rfl
@[simp] theorem State.setDout_dout (b : Byte) : (s.setDout b).dout = b := rfl
@[simp] theorem State.setDout_result (b : Byte) : (s.setDout b).result = s.result := rfl
@[simp] theorem State.setDout_resValid (b : Byte) : (s.setDout b).resValid = s.resValid := rfl
@[simp] theorem State.setDout_err (b : Byte) : (s.setDout b).err = s.err := rfl
@[simp] theorem State.setDout_script (b : Byte) : (s.setDout b).script = s.script := rfl
@[simp] theorem State.setDout_resp (b : Byte) : (s.setDout b).resp = s.resp := rfl
@[simp] theorem State.setDout_resets (b : Byte) : (s.setDout b).resets = s.resets := rfl

/-! ### `State.setTable` -/

@[simp] theorem State.setTable_tbl (t : Vector Byte 256) : (s.setTable t).tbl = t := rfl
@[simp] theorem State.setTable_tblValid (t : Vector Byte 256) : (s.setTable t).tblValid = true := rfl
@[simp] theorem State.setTable_cfg (t : Vector Byte 256) : (s.setTable t).cfg = s.cfg := rfl
@[simp] theorem State.setTable_act (t : Vector Byte 256) : (s.setTable t).act = s.act := rfl
@[simp] theorem State.setTable_cfgValid (t : Vector Byte 256) : (s.setTable t).cfgValid = s.cfgValid := rfl
@[simp] theorem State.setTable_ctr (t : Vector Byte 256) : (s.setTable t).ctr = s.ctr := rfl
@[simp] theorem State.setTable_fin (t : Vector Byte 256) : (s.setTable t).fin = s.fin := rfl
@[simp] theorem State.setTable_finLen (t : Vector Byte 256) : (s.setTable t).finLen = s.finLen := rfl
@[simp] theorem State.setTable_fout (t : Vector Byte 256) : (s.setTable t).fout = s.fout := rfl
@[simp] theorem State.setTable_foutLen (t : Vector Byte 256) : (s.setTable t).foutLen = s.foutLen := rfl
@[simp] theorem State.setTable_v64InLo (t : Vector Byte 256) : (s.setTable t).v64InLo = s.v64InLo := rfl
@[simp] theorem State.setTable_v64InHi (t : Vector Byte 256) : (s.setTable t).v64InHi = s.v64InHi := rfl
@[simp] theorem State.setTable_v64OutLo (t : Vector Byte 256) : (s.setTable t).v64OutLo = s.v64OutLo := rfl
@[simp] theorem State.setTable_v64OutHi (t : Vector Byte 256) : (s.setTable t).v64OutHi = s.v64OutHi := rfl
@[simp] theorem State.setTable_dout (t : Vector Byte 256) : (s.setTable t).dout = s.dout := rfl
@[simp] theorem State.setTable_result (t : Vector Byte 256) : (s.setTable t).result = s.result := rfl
@[simp] theorem State.setTable_resValid (t : Vector Byte 256) : (s.setTable t).resValid = s.resValid := rfl
@[simp] theorem State.setTable_err (t : Vector Byte 256) : (s.setTable t).err = s.err := rfl
@[simp] theorem State.setTable_script (t : Vector Byte 256) : (s.setTable t).script = s.script := rfl
@[simp] theorem State.setTable_resp (t : Vector Byte 256) : (s.setTable t).resp = s.resp := rfl
@[simp] theorem State.setTable_resets (t : Vector Byte 256) : (s.setTable t).resets = s.resets := rfl

/-! ### `State.latch` -/

@[simp] theorem State.latch_tbl (c : ActConfig) : (s.latch c).tbl = s.tbl := rfl
@[simp] theorem State.latch_tblValid (c : ActConfig) : (s.latch c).tblValid = s.tblValid := rfl
@[simp] theorem State.latch_cfg (c : ActConfig) : (s.latch c).cfg = s.cfg := rfl
@[simp] theorem State.latch_act (c : ActConfig) : (s.latch c).act = c := rfl
@[simp] theorem State.latch_cfgValid (c : ActConfig) : (s.latch c).cfgValid = true := rfl
@[simp] theorem State.latch_ctr (c : ActConfig) : (s.latch c).ctr = 0 := rfl
@[simp] theorem State.latch_fin (c : ActConfig) : (s.latch c).fin = s.fin := rfl
@[simp] theorem State.latch_finLen (c : ActConfig) : (s.latch c).finLen = s.finLen := rfl
@[simp] theorem State.latch_fout (c : ActConfig) : (s.latch c).fout = s.fout := rfl
@[simp] theorem State.latch_foutLen (c : ActConfig) : (s.latch c).foutLen = s.foutLen := rfl
@[simp] theorem State.latch_v64InLo (c : ActConfig) : (s.latch c).v64InLo = s.v64InLo := rfl
@[simp] theorem State.latch_v64InHi (c : ActConfig) : (s.latch c).v64InHi = s.v64InHi := rfl
@[simp] theorem State.latch_v64OutLo (c : ActConfig) : (s.latch c).v64OutLo = s.v64OutLo := rfl
@[simp] theorem State.latch_v64OutHi (c : ActConfig) : (s.latch c).v64OutHi = s.v64OutHi := rfl
@[simp] theorem State.latch_dout (c : ActConfig) : (s.latch c).dout = s.dout := rfl
@[simp] theorem State.latch_result (c : ActConfig) : (s.latch c).result = s.result := rfl
@[simp] theorem State.latch_resValid (c : ActConfig) : (s.latch c).resValid = s.resValid := rfl
@[simp] theorem State.latch_err (c : ActConfig) : (s.latch c).err = s.err := rfl
@[simp] theorem State.latch_script (c : ActConfig) : (s.latch c).script = s.script := rfl
@[simp] theorem State.latch_resp (c : ActConfig) : (s.latch c).resp = s.resp := rfl
@[simp] theorem State.latch_resets (c : ActConfig) : (s.latch c).resets = s.resets := rfl

/-! ### `State.setFoutLen` -/

@[simp] theorem State.setFoutLen_tbl (n : Nat) : (s.setFoutLen n).tbl = s.tbl := rfl
@[simp] theorem State.setFoutLen_tblValid (n : Nat) : (s.setFoutLen n).tblValid = s.tblValid := rfl
@[simp] theorem State.setFoutLen_cfg (n : Nat) : (s.setFoutLen n).cfg = s.cfg := rfl
@[simp] theorem State.setFoutLen_act (n : Nat) : (s.setFoutLen n).act = s.act := rfl
@[simp] theorem State.setFoutLen_cfgValid (n : Nat) : (s.setFoutLen n).cfgValid = s.cfgValid := rfl
@[simp] theorem State.setFoutLen_ctr (n : Nat) : (s.setFoutLen n).ctr = s.ctr := rfl
@[simp] theorem State.setFoutLen_fin (n : Nat) : (s.setFoutLen n).fin = s.fin := rfl
@[simp] theorem State.setFoutLen_finLen (n : Nat) : (s.setFoutLen n).finLen = s.finLen := rfl
@[simp] theorem State.setFoutLen_fout (n : Nat) : (s.setFoutLen n).fout = s.fout := rfl
@[simp] theorem State.setFoutLen_foutLen (n : Nat) : (s.setFoutLen n).foutLen = BitVec.ofNat 32 n := rfl
@[simp] theorem State.setFoutLen_v64InLo (n : Nat) : (s.setFoutLen n).v64InLo = s.v64InLo := rfl
@[simp] theorem State.setFoutLen_v64InHi (n : Nat) : (s.setFoutLen n).v64InHi = s.v64InHi := rfl
@[simp] theorem State.setFoutLen_v64OutLo (n : Nat) : (s.setFoutLen n).v64OutLo = s.v64OutLo := rfl
@[simp] theorem State.setFoutLen_v64OutHi (n : Nat) : (s.setFoutLen n).v64OutHi = s.v64OutHi := rfl
@[simp] theorem State.setFoutLen_dout (n : Nat) : (s.setFoutLen n).dout = s.dout := rfl
@[simp] theorem State.setFoutLen_result (n : Nat) : (s.setFoutLen n).result = s.result := rfl
@[simp] theorem State.setFoutLen_resValid (n : Nat) : (s.setFoutLen n).resValid = s.resValid := rfl
@[simp] theorem State.setFoutLen_err (n : Nat) : (s.setFoutLen n).err = s.err := rfl
@[simp] theorem State.setFoutLen_script (n : Nat) : (s.setFoutLen n).script = s.script := rfl
@[simp] theorem State.setFoutLen_resp (n : Nat) : (s.setFoutLen n).resp = s.resp := rfl
@[simp] theorem State.setFoutLen_resets (n : Nat) : (s.setFoutLen n).resets = s.resets := rfl

/-! ### `State.advanceCtr` -/

@[simp] theorem State.advanceCtr_tbl : (s.advanceCtr).tbl = s.tbl := rfl
@[simp] theorem State.advanceCtr_tblValid : (s.advanceCtr).tblValid = s.tblValid := rfl
@[simp] theorem State.advanceCtr_cfg : (s.advanceCtr).cfg = s.cfg := rfl
@[simp] theorem State.advanceCtr_act : (s.advanceCtr).act = s.act := rfl
@[simp] theorem State.advanceCtr_cfgValid : (s.advanceCtr).cfgValid = s.cfgValid := rfl
@[simp] theorem State.advanceCtr_ctr : (s.advanceCtr).ctr = s.ctr + 1 := rfl
@[simp] theorem State.advanceCtr_fin : (s.advanceCtr).fin = s.fin := rfl
@[simp] theorem State.advanceCtr_finLen : (s.advanceCtr).finLen = s.finLen := rfl
@[simp] theorem State.advanceCtr_fout : (s.advanceCtr).fout = s.fout := rfl
@[simp] theorem State.advanceCtr_foutLen : (s.advanceCtr).foutLen = s.foutLen := rfl
@[simp] theorem State.advanceCtr_v64InLo : (s.advanceCtr).v64InLo = s.v64InLo := rfl
@[simp] theorem State.advanceCtr_v64InHi : (s.advanceCtr).v64InHi = s.v64InHi := rfl
@[simp] theorem State.advanceCtr_v64OutLo : (s.advanceCtr).v64OutLo = s.v64OutLo := rfl
@[simp] theorem State.advanceCtr_v64OutHi : (s.advanceCtr).v64OutHi = s.v64OutHi := rfl
@[simp] theorem State.advanceCtr_dout : (s.advanceCtr).dout = s.dout := rfl
@[simp] theorem State.advanceCtr_result : (s.advanceCtr).result = s.result := rfl
@[simp] theorem State.advanceCtr_resValid : (s.advanceCtr).resValid = s.resValid := rfl
@[simp] theorem State.advanceCtr_err : (s.advanceCtr).err = s.err := rfl
@[simp] theorem State.advanceCtr_script : (s.advanceCtr).script = s.script := rfl
@[simp] theorem State.advanceCtr_resp : (s.advanceCtr).resp = s.resp := rfl
@[simp] theorem State.advanceCtr_resets : (s.advanceCtr).resets = s.resets := rfl

/-! ### `State.setCtr` -/

@[simp] theorem State.setCtr_tbl (c : Nibble) : (s.setCtr c).tbl = s.tbl := rfl
@[simp] theorem State.setCtr_tblValid (c : Nibble) : (s.setCtr c).tblValid = s.tblValid := rfl
@[simp] theorem State.setCtr_cfg (c : Nibble) : (s.setCtr c).cfg = s.cfg := rfl
@[simp] theorem State.setCtr_act (c : Nibble) : (s.setCtr c).act = s.act := rfl
@[simp] theorem State.setCtr_cfgValid (c : Nibble) : (s.setCtr c).cfgValid = s.cfgValid := rfl
@[simp] theorem State.setCtr_ctr (c : Nibble) : (s.setCtr c).ctr = c := rfl
@[simp] theorem State.setCtr_fin (c : Nibble) : (s.setCtr c).fin = s.fin := rfl
@[simp] theorem State.setCtr_finLen (c : Nibble) : (s.setCtr c).finLen = s.finLen := rfl
@[simp] theorem State.setCtr_fout (c : Nibble) : (s.setCtr c).fout = s.fout := rfl
@[simp] theorem State.setCtr_foutLen (c : Nibble) : (s.setCtr c).foutLen = s.foutLen := rfl
@[simp] theorem State.setCtr_v64InLo (c : Nibble) : (s.setCtr c).v64InLo = s.v64InLo := rfl
@[simp] theorem State.setCtr_v64InHi (c : Nibble) : (s.setCtr c).v64InHi = s.v64InHi := rfl
@[simp] theorem State.setCtr_v64OutLo (c : Nibble) : (s.setCtr c).v64OutLo = s.v64OutLo := rfl
@[simp] theorem State.setCtr_v64OutHi (c : Nibble) : (s.setCtr c).v64OutHi = s.v64OutHi := rfl
@[simp] theorem State.setCtr_dout (c : Nibble) : (s.setCtr c).dout = s.dout := rfl
@[simp] theorem State.setCtr_result (c : Nibble) : (s.setCtr c).result = s.result := rfl
@[simp] theorem State.setCtr_resValid (c : Nibble) : (s.setCtr c).resValid = s.resValid := rfl
@[simp] theorem State.setCtr_err (c : Nibble) : (s.setCtr c).err = s.err := rfl
@[simp] theorem State.setCtr_script (c : Nibble) : (s.setCtr c).script = s.script := rfl
@[simp] theorem State.setCtr_resp (c : Nibble) : (s.setCtr c).resp = s.resp := rfl
@[simp] theorem State.setCtr_resets (c : Nibble) : (s.setCtr c).resets = s.resets := rfl

/-! ### `State.setV64Out` -/

@[simp] theorem State.setV64Out_tbl (v : BitVec 64) : (s.setV64Out v).tbl = s.tbl := rfl
@[simp] theorem State.setV64Out_tblValid (v : BitVec 64) : (s.setV64Out v).tblValid = s.tblValid := rfl
@[simp] theorem State.setV64Out_cfg (v : BitVec 64) : (s.setV64Out v).cfg = s.cfg := rfl
@[simp] theorem State.setV64Out_act (v : BitVec 64) : (s.setV64Out v).act = s.act := rfl
@[simp] theorem State.setV64Out_cfgValid (v : BitVec 64) : (s.setV64Out v).cfgValid = s.cfgValid := rfl
@[simp] theorem State.setV64Out_ctr (v : BitVec 64) : (s.setV64Out v).ctr = s.ctr := rfl
@[simp] theorem State.setV64Out_fin (v : BitVec 64) : (s.setV64Out v).fin = s.fin := rfl
@[simp] theorem State.setV64Out_finLen (v : BitVec 64) : (s.setV64Out v).finLen = s.finLen := rfl
@[simp] theorem State.setV64Out_fout (v : BitVec 64) : (s.setV64Out v).fout = s.fout := rfl
@[simp] theorem State.setV64Out_foutLen (v : BitVec 64) : (s.setV64Out v).foutLen = s.foutLen := rfl
@[simp] theorem State.setV64Out_v64InLo (v : BitVec 64) : (s.setV64Out v).v64InLo = s.v64InLo := rfl
@[simp] theorem State.setV64Out_v64InHi (v : BitVec 64) : (s.setV64Out v).v64InHi = s.v64InHi := rfl
@[simp] theorem State.setV64Out_v64OutLo (v : BitVec 64) : (s.setV64Out v).v64OutLo = v.extractLsb' 0 32 := rfl
@[simp] theorem State.setV64Out_v64OutHi (v : BitVec 64) : (s.setV64Out v).v64OutHi = v.extractLsb' 32 32 := rfl
@[simp] theorem State.setV64Out_dout (v : BitVec 64) : (s.setV64Out v).dout = s.dout := rfl
@[simp] theorem State.setV64Out_result (v : BitVec 64) : (s.setV64Out v).result = s.result := rfl
@[simp] theorem State.setV64Out_resValid (v : BitVec 64) : (s.setV64Out v).resValid = s.resValid := rfl
@[simp] theorem State.setV64Out_err (v : BitVec 64) : (s.setV64Out v).err = s.err := rfl
@[simp] theorem State.setV64Out_script (v : BitVec 64) : (s.setV64Out v).script = s.script := rfl
@[simp] theorem State.setV64Out_resp (v : BitVec 64) : (s.setV64Out v).resp = s.resp := rfl
@[simp] theorem State.setV64Out_resets (v : BitVec 64) : (s.setV64Out v).resets = s.resets := rfl

/-! ### `State.report` -/

@[simp] theorem State.report_tbl (st : CheckStatus) : (s.report st).tbl = s.tbl := rfl
@[simp] theorem State.report_tblValid (st : CheckStatus) : (s.report st).tblValid = s.tblValid := rfl
@[simp] theorem State.report_cfg (st : CheckStatus) : (s.report st).cfg = s.cfg := rfl
@[simp] theorem State.report_act (st : CheckStatus) : (s.report st).act = s.act := rfl
@[simp] theorem State.report_cfgValid (st : CheckStatus) : (s.report st).cfgValid = s.cfgValid := rfl
@[simp] theorem State.report_ctr (st : CheckStatus) : (s.report st).ctr = s.ctr := rfl
@[simp] theorem State.report_fin (st : CheckStatus) : (s.report st).fin = s.fin := rfl
@[simp] theorem State.report_finLen (st : CheckStatus) : (s.report st).finLen = s.finLen := rfl
@[simp] theorem State.report_fout (st : CheckStatus) : (s.report st).fout = s.fout := rfl
@[simp] theorem State.report_foutLen (st : CheckStatus) : (s.report st).foutLen = s.foutLen := rfl
@[simp] theorem State.report_v64InLo (st : CheckStatus) : (s.report st).v64InLo = s.v64InLo := rfl
@[simp] theorem State.report_v64InHi (st : CheckStatus) : (s.report st).v64InHi = s.v64InHi := rfl
@[simp] theorem State.report_v64OutLo (st : CheckStatus) : (s.report st).v64OutLo = s.v64OutLo := rfl
@[simp] theorem State.report_v64OutHi (st : CheckStatus) : (s.report st).v64OutHi = s.v64OutHi := rfl
@[simp] theorem State.report_dout (st : CheckStatus) : (s.report st).dout = s.dout := rfl
@[simp] theorem State.report_result (st : CheckStatus) : (s.report st).result = st := rfl
@[simp] theorem State.report_resValid (st : CheckStatus) : (s.report st).resValid = true := rfl
@[simp] theorem State.report_err (st : CheckStatus) : (s.report st).err = s.err := rfl
@[simp] theorem State.report_script (st : CheckStatus) : (s.report st).script = s.script := rfl
@[simp] theorem State.report_resp (st : CheckStatus) : (s.report st).resp = s.resp := rfl
@[simp] theorem State.report_resets (st : CheckStatus) : (s.report st).resets = s.resets := rfl

/-! ### `State.answer` -/

@[simp] theorem State.answer_tbl (r : Response) : (s.answer r).tbl = s.tbl := rfl
@[simp] theorem State.answer_tblValid (r : Response) : (s.answer r).tblValid = s.tblValid := rfl
@[simp] theorem State.answer_cfg (r : Response) : (s.answer r).cfg = s.cfg := rfl
@[simp] theorem State.answer_act (r : Response) : (s.answer r).act = s.act := rfl
@[simp] theorem State.answer_cfgValid (r : Response) : (s.answer r).cfgValid = s.cfgValid := rfl
@[simp] theorem State.answer_ctr (r : Response) : (s.answer r).ctr = s.ctr := rfl
@[simp] theorem State.answer_fin (r : Response) : (s.answer r).fin = s.fin := rfl
@[simp] theorem State.answer_finLen (r : Response) : (s.answer r).finLen = s.finLen := rfl
@[simp] theorem State.answer_fout (r : Response) : (s.answer r).fout = s.fout := rfl
@[simp] theorem State.answer_foutLen (r : Response) : (s.answer r).foutLen = s.foutLen := rfl
@[simp] theorem State.answer_v64InLo (r : Response) : (s.answer r).v64InLo = s.v64InLo := rfl
@[simp] theorem State.answer_v64InHi (r : Response) : (s.answer r).v64InHi = s.v64InHi := rfl
@[simp] theorem State.answer_v64OutLo (r : Response) : (s.answer r).v64OutLo = s.v64OutLo := rfl
@[simp] theorem State.answer_v64OutHi (r : Response) : (s.answer r).v64OutHi = s.v64OutHi := rfl
@[simp] theorem State.answer_dout (r : Response) : (s.answer r).dout = s.dout := rfl
@[simp] theorem State.answer_result (r : Response) : (s.answer r).result = s.result := rfl
@[simp] theorem State.answer_resValid (r : Response) : (s.answer r).resValid = s.resValid := rfl
@[simp] theorem State.answer_err (r : Response) : (s.answer r).err = s.err := rfl
@[simp] theorem State.answer_script (r : Response) : (s.answer r).script = s.script := rfl
@[simp] theorem State.answer_resp (r : Response) : (s.answer r).resp = r := rfl
@[simp] theorem State.answer_resets (r : Response) : (s.answer r).resets = s.resets := rfl

/-! ### `State.setScript` -/

@[simp] theorem State.setScript_tbl (es : List HostEvent) : (s.setScript es).tbl = s.tbl := rfl
@[simp] theorem State.setScript_tblValid (es : List HostEvent) : (s.setScript es).tblValid = s.tblValid := rfl
@[simp] theorem State.setScript_cfg (es : List HostEvent) : (s.setScript es).cfg = s.cfg := rfl
@[simp] theorem State.setScript_act (es : List HostEvent) : (s.setScript es).act = s.act := rfl
@[simp] theorem State.setScript_cfgValid (es : List HostEvent) : (s.setScript es).cfgValid = s.cfgValid := rfl
@[simp] theorem State.setScript_ctr (es : List HostEvent) : (s.setScript es).ctr = s.ctr := rfl
@[simp] theorem State.setScript_fin (es : List HostEvent) : (s.setScript es).fin = s.fin := rfl
@[simp] theorem State.setScript_finLen (es : List HostEvent) : (s.setScript es).finLen = s.finLen := rfl
@[simp] theorem State.setScript_fout (es : List HostEvent) : (s.setScript es).fout = s.fout := rfl
@[simp] theorem State.setScript_foutLen (es : List HostEvent) : (s.setScript es).foutLen = s.foutLen := rfl
@[simp] theorem State.setScript_v64InLo (es : List HostEvent) : (s.setScript es).v64InLo = s.v64InLo := rfl
@[simp] theorem State.setScript_v64InHi (es : List HostEvent) : (s.setScript es).v64InHi = s.v64InHi := rfl
@[simp] theorem State.setScript_v64OutLo (es : List HostEvent) : (s.setScript es).v64OutLo = s.v64OutLo := rfl
@[simp] theorem State.setScript_v64OutHi (es : List HostEvent) : (s.setScript es).v64OutHi = s.v64OutHi := rfl
@[simp] theorem State.setScript_dout (es : List HostEvent) : (s.setScript es).dout = s.dout := rfl
@[simp] theorem State.setScript_result (es : List HostEvent) : (s.setScript es).result = s.result := rfl
@[simp] theorem State.setScript_resValid (es : List HostEvent) : (s.setScript es).resValid = s.resValid := rfl
@[simp] theorem State.setScript_err (es : List HostEvent) : (s.setScript es).err = s.err := rfl
@[simp] theorem State.setScript_script (es : List HostEvent) : (s.setScript es).script = es := rfl
@[simp] theorem State.setScript_resp (es : List HostEvent) : (s.setScript es).resp = s.resp := rfl
@[simp] theorem State.setScript_resets (es : List HostEvent) : (s.setScript es).resets = s.resets := rfl

/-! ### `State.setFinLen` -/

@[simp] theorem State.setFinLen_tbl (v : Word) : (s.setFinLen v).tbl = s.tbl := rfl
@[simp] theorem State.setFinLen_tblValid (v : Word) : (s.setFinLen v).tblValid = s.tblValid := rfl
@[simp] theorem State.setFinLen_cfg (v : Word) : (s.setFinLen v).cfg = s.cfg := rfl
@[simp] theorem State.setFinLen_act (v : Word) : (s.setFinLen v).act = s.act := rfl
@[simp] theorem State.setFinLen_cfgValid (v : Word) : (s.setFinLen v).cfgValid = s.cfgValid := rfl
@[simp] theorem State.setFinLen_ctr (v : Word) : (s.setFinLen v).ctr = s.ctr := rfl
@[simp] theorem State.setFinLen_fin (v : Word) : (s.setFinLen v).fin = s.fin := rfl
@[simp] theorem State.setFinLen_finLen (v : Word) : (s.setFinLen v).finLen = v := rfl
@[simp] theorem State.setFinLen_fout (v : Word) : (s.setFinLen v).fout = s.fout := rfl
@[simp] theorem State.setFinLen_foutLen (v : Word) : (s.setFinLen v).foutLen = s.foutLen := rfl
@[simp] theorem State.setFinLen_v64InLo (v : Word) : (s.setFinLen v).v64InLo = s.v64InLo := rfl
@[simp] theorem State.setFinLen_v64InHi (v : Word) : (s.setFinLen v).v64InHi = s.v64InHi := rfl
@[simp] theorem State.setFinLen_v64OutLo (v : Word) : (s.setFinLen v).v64OutLo = s.v64OutLo := rfl
@[simp] theorem State.setFinLen_v64OutHi (v : Word) : (s.setFinLen v).v64OutHi = s.v64OutHi := rfl
@[simp] theorem State.setFinLen_dout (v : Word) : (s.setFinLen v).dout = s.dout := rfl
@[simp] theorem State.setFinLen_result (v : Word) : (s.setFinLen v).result = s.result := rfl
@[simp] theorem State.setFinLen_resValid (v : Word) : (s.setFinLen v).resValid = s.resValid := rfl
@[simp] theorem State.setFinLen_err (v : Word) : (s.setFinLen v).err = s.err := rfl
@[simp] theorem State.setFinLen_script (v : Word) : (s.setFinLen v).script = s.script := rfl
@[simp] theorem State.setFinLen_resp (v : Word) : (s.setFinLen v).resp = s.resp := rfl
@[simp] theorem State.setFinLen_resets (v : Word) : (s.setFinLen v).resets = s.resets := rfl

/-! ### `State.setStaging` -/

@[simp] theorem State.setStaging_tbl (c : Staging) : (s.setStaging c).tbl = s.tbl := rfl
@[simp] theorem State.setStaging_tblValid (c : Staging) : (s.setStaging c).tblValid = s.tblValid := rfl
@[simp] theorem State.setStaging_cfg (c : Staging) : (s.setStaging c).cfg = c := rfl
@[simp] theorem State.setStaging_act (c : Staging) : (s.setStaging c).act = s.act := rfl
@[simp] theorem State.setStaging_cfgValid (c : Staging) : (s.setStaging c).cfgValid = s.cfgValid := rfl
@[simp] theorem State.setStaging_ctr (c : Staging) : (s.setStaging c).ctr = s.ctr := rfl
@[simp] theorem State.setStaging_fin (c : Staging) : (s.setStaging c).fin = s.fin := rfl
@[simp] theorem State.setStaging_finLen (c : Staging) : (s.setStaging c).finLen = s.finLen := rfl
@[simp] theorem State.setStaging_fout (c : Staging) : (s.setStaging c).fout = s.fout := rfl
@[simp] theorem State.setStaging_foutLen (c : Staging) : (s.setStaging c).foutLen = s.foutLen := rfl
@[simp] theorem State.setStaging_v64InLo (c : Staging) : (s.setStaging c).v64InLo = s.v64InLo := rfl
@[simp] theorem State.setStaging_v64InHi (c : Staging) : (s.setStaging c).v64InHi = s.v64InHi := rfl
@[simp] theorem State.setStaging_v64OutLo (c : Staging) : (s.setStaging c).v64OutLo = s.v64OutLo := rfl
@[simp] theorem State.setStaging_v64OutHi (c : Staging) : (s.setStaging c).v64OutHi = s.v64OutHi := rfl
@[simp] theorem State.setStaging_dout (c : Staging) : (s.setStaging c).dout = s.dout := rfl
@[simp] theorem State.setStaging_result (c : Staging) : (s.setStaging c).result = s.result := rfl
@[simp] theorem State.setStaging_resValid (c : Staging) : (s.setStaging c).resValid = s.resValid := rfl
@[simp] theorem State.setStaging_err (c : Staging) : (s.setStaging c).err = s.err := rfl
@[simp] theorem State.setStaging_script (c : Staging) : (s.setStaging c).script = s.script := rfl
@[simp] theorem State.setStaging_resp (c : Staging) : (s.setStaging c).resp = s.resp := rfl
@[simp] theorem State.setStaging_resets (c : Staging) : (s.setStaging c).resets = s.resets := rfl

/-! ### `State.setV64InLo` -/

@[simp] theorem State.setV64InLo_tbl (v : Word) : (s.setV64InLo v).tbl = s.tbl := rfl
@[simp] theorem State.setV64InLo_tblValid (v : Word) : (s.setV64InLo v).tblValid = s.tblValid := rfl
@[simp] theorem State.setV64InLo_cfg (v : Word) : (s.setV64InLo v).cfg = s.cfg := rfl
@[simp] theorem State.setV64InLo_act (v : Word) : (s.setV64InLo v).act = s.act := rfl
@[simp] theorem State.setV64InLo_cfgValid (v : Word) : (s.setV64InLo v).cfgValid = s.cfgValid := rfl
@[simp] theorem State.setV64InLo_ctr (v : Word) : (s.setV64InLo v).ctr = s.ctr := rfl
@[simp] theorem State.setV64InLo_fin (v : Word) : (s.setV64InLo v).fin = s.fin := rfl
@[simp] theorem State.setV64InLo_finLen (v : Word) : (s.setV64InLo v).finLen = s.finLen := rfl
@[simp] theorem State.setV64InLo_fout (v : Word) : (s.setV64InLo v).fout = s.fout := rfl
@[simp] theorem State.setV64InLo_foutLen (v : Word) : (s.setV64InLo v).foutLen = s.foutLen := rfl
@[simp] theorem State.setV64InLo_v64InLo (v : Word) : (s.setV64InLo v).v64InLo = v := rfl
@[simp] theorem State.setV64InLo_v64InHi (v : Word) : (s.setV64InLo v).v64InHi = s.v64InHi := rfl
@[simp] theorem State.setV64InLo_v64OutLo (v : Word) : (s.setV64InLo v).v64OutLo = s.v64OutLo := rfl
@[simp] theorem State.setV64InLo_v64OutHi (v : Word) : (s.setV64InLo v).v64OutHi = s.v64OutHi := rfl
@[simp] theorem State.setV64InLo_dout (v : Word) : (s.setV64InLo v).dout = s.dout := rfl
@[simp] theorem State.setV64InLo_result (v : Word) : (s.setV64InLo v).result = s.result := rfl
@[simp] theorem State.setV64InLo_resValid (v : Word) : (s.setV64InLo v).resValid = s.resValid := rfl
@[simp] theorem State.setV64InLo_err (v : Word) : (s.setV64InLo v).err = s.err := rfl
@[simp] theorem State.setV64InLo_script (v : Word) : (s.setV64InLo v).script = s.script := rfl
@[simp] theorem State.setV64InLo_resp (v : Word) : (s.setV64InLo v).resp = s.resp := rfl
@[simp] theorem State.setV64InLo_resets (v : Word) : (s.setV64InLo v).resets = s.resets := rfl

/-! ### `State.setV64InHi` -/

@[simp] theorem State.setV64InHi_tbl (v : Word) : (s.setV64InHi v).tbl = s.tbl := rfl
@[simp] theorem State.setV64InHi_tblValid (v : Word) : (s.setV64InHi v).tblValid = s.tblValid := rfl
@[simp] theorem State.setV64InHi_cfg (v : Word) : (s.setV64InHi v).cfg = s.cfg := rfl
@[simp] theorem State.setV64InHi_act (v : Word) : (s.setV64InHi v).act = s.act := rfl
@[simp] theorem State.setV64InHi_cfgValid (v : Word) : (s.setV64InHi v).cfgValid = s.cfgValid := rfl
@[simp] theorem State.setV64InHi_ctr (v : Word) : (s.setV64InHi v).ctr = s.ctr := rfl
@[simp] theorem State.setV64InHi_fin (v : Word) : (s.setV64InHi v).fin = s.fin := rfl
@[simp] theorem State.setV64InHi_finLen (v : Word) : (s.setV64InHi v).finLen = s.finLen := rfl
@[simp] theorem State.setV64InHi_fout (v : Word) : (s.setV64InHi v).fout = s.fout := rfl
@[simp] theorem State.setV64InHi_foutLen (v : Word) : (s.setV64InHi v).foutLen = s.foutLen := rfl
@[simp] theorem State.setV64InHi_v64InLo (v : Word) : (s.setV64InHi v).v64InLo = s.v64InLo := rfl
@[simp] theorem State.setV64InHi_v64InHi (v : Word) : (s.setV64InHi v).v64InHi = v := rfl
@[simp] theorem State.setV64InHi_v64OutLo (v : Word) : (s.setV64InHi v).v64OutLo = s.v64OutLo := rfl
@[simp] theorem State.setV64InHi_v64OutHi (v : Word) : (s.setV64InHi v).v64OutHi = s.v64OutHi := rfl
@[simp] theorem State.setV64InHi_dout (v : Word) : (s.setV64InHi v).dout = s.dout := rfl
@[simp] theorem State.setV64InHi_result (v : Word) : (s.setV64InHi v).result = s.result := rfl
@[simp] theorem State.setV64InHi_resValid (v : Word) : (s.setV64InHi v).resValid = s.resValid := rfl
@[simp] theorem State.setV64InHi_err (v : Word) : (s.setV64InHi v).err = s.err := rfl
@[simp] theorem State.setV64InHi_script (v : Word) : (s.setV64InHi v).script = s.script := rfl
@[simp] theorem State.setV64InHi_resp (v : Word) : (s.setV64InHi v).resp = s.resp := rfl
@[simp] theorem State.setV64InHi_resets (v : Word) : (s.setV64InHi v).resets = s.resets := rfl

/-! ### `State.emitFrame` -/

@[simp] theorem State.emitFrame_tbl (out : List Byte) (n : Nat) : (s.emitFrame out n).tbl = s.tbl := rfl
@[simp] theorem State.emitFrame_tblValid (out : List Byte) (n : Nat) : (s.emitFrame out n).tblValid = s.tblValid := rfl
@[simp] theorem State.emitFrame_cfg (out : List Byte) (n : Nat) : (s.emitFrame out n).cfg = s.cfg := rfl
@[simp] theorem State.emitFrame_act (out : List Byte) (n : Nat) : (s.emitFrame out n).act = s.act := rfl
@[simp] theorem State.emitFrame_cfgValid (out : List Byte) (n : Nat) : (s.emitFrame out n).cfgValid = s.cfgValid := rfl
@[simp] theorem State.emitFrame_ctr (out : List Byte) (n : Nat) : (s.emitFrame out n).ctr = s.ctr + 1 := rfl
@[simp] theorem State.emitFrame_fin (out : List Byte) (n : Nat) : (s.emitFrame out n).fin = s.fin := rfl
@[simp] theorem State.emitFrame_finLen (out : List Byte) (n : Nat) : (s.emitFrame out n).finLen = s.finLen := rfl
@[simp] theorem State.emitFrame_fout (out : List Byte) (n : Nat) : (s.emitFrame out n).fout = s.fout.writeFrom s.foutDraw 0 out := rfl
@[simp] theorem State.emitFrame_foutLen (out : List Byte) (n : Nat) : (s.emitFrame out n).foutLen = BitVec.ofNat 32 n := rfl
@[simp] theorem State.emitFrame_v64InLo (out : List Byte) (n : Nat) : (s.emitFrame out n).v64InLo = s.v64InLo := rfl
@[simp] theorem State.emitFrame_v64InHi (out : List Byte) (n : Nat) : (s.emitFrame out n).v64InHi = s.v64InHi := rfl
@[simp] theorem State.emitFrame_v64OutLo (out : List Byte) (n : Nat) : (s.emitFrame out n).v64OutLo = s.v64OutLo := rfl
@[simp] theorem State.emitFrame_v64OutHi (out : List Byte) (n : Nat) : (s.emitFrame out n).v64OutHi = s.v64OutHi := rfl
@[simp] theorem State.emitFrame_dout (out : List Byte) (n : Nat) : (s.emitFrame out n).dout = s.dout := rfl
@[simp] theorem State.emitFrame_result (out : List Byte) (n : Nat) : (s.emitFrame out n).result = s.result := rfl
@[simp] theorem State.emitFrame_resValid (out : List Byte) (n : Nat) : (s.emitFrame out n).resValid = s.resValid := rfl
@[simp] theorem State.emitFrame_err (out : List Byte) (n : Nat) : (s.emitFrame out n).err = s.err := rfl
@[simp] theorem State.emitFrame_script (out : List Byte) (n : Nat) : (s.emitFrame out n).script = s.script := rfl
@[simp] theorem State.emitFrame_resp (out : List Byte) (n : Nat) : (s.emitFrame out n).resp = s.resp := rfl
@[simp] theorem State.emitFrame_resets (out : List Byte) (n : Nat) : (s.emitFrame out n).resets = s.resets := rfl

/-! ### `State.resync` -/

@[simp] theorem State.resync_tbl (st : CheckStatus) (rc : Nibble) : (s.resync st rc).tbl = s.tbl := by
  unfold State.resync; split <;> rfl
@[simp] theorem State.resync_tblValid (st : CheckStatus) (rc : Nibble) : (s.resync st rc).tblValid = s.tblValid := by
  unfold State.resync; split <;> rfl
@[simp] theorem State.resync_cfg (st : CheckStatus) (rc : Nibble) : (s.resync st rc).cfg = s.cfg := by
  unfold State.resync; split <;> rfl
@[simp] theorem State.resync_act (st : CheckStatus) (rc : Nibble) : (s.resync st rc).act = s.act := by
  unfold State.resync; split <;> rfl
@[simp] theorem State.resync_cfgValid (st : CheckStatus) (rc : Nibble) : (s.resync st rc).cfgValid = s.cfgValid := by
  unfold State.resync; split <;> rfl
@[simp] theorem State.resync_ctr (st : CheckStatus) (rc : Nibble) :
    (s.resync st rc).ctr = if accepted st then rc else s.ctr := by
  unfold State.resync; split <;> rfl
@[simp] theorem State.resync_fin (st : CheckStatus) (rc : Nibble) : (s.resync st rc).fin = s.fin := by
  unfold State.resync; split <;> rfl
@[simp] theorem State.resync_finLen (st : CheckStatus) (rc : Nibble) : (s.resync st rc).finLen = s.finLen := by
  unfold State.resync; split <;> rfl
@[simp] theorem State.resync_fout (st : CheckStatus) (rc : Nibble) : (s.resync st rc).fout = s.fout := by
  unfold State.resync; split <;> rfl
@[simp] theorem State.resync_foutLen (st : CheckStatus) (rc : Nibble) : (s.resync st rc).foutLen = s.foutLen := by
  unfold State.resync; split <;> rfl
@[simp] theorem State.resync_v64InLo (st : CheckStatus) (rc : Nibble) : (s.resync st rc).v64InLo = s.v64InLo := by
  unfold State.resync; split <;> rfl
@[simp] theorem State.resync_v64InHi (st : CheckStatus) (rc : Nibble) : (s.resync st rc).v64InHi = s.v64InHi := by
  unfold State.resync; split <;> rfl
@[simp] theorem State.resync_v64OutLo (st : CheckStatus) (rc : Nibble) : (s.resync st rc).v64OutLo = s.v64OutLo := by
  unfold State.resync; split <;> rfl
@[simp] theorem State.resync_v64OutHi (st : CheckStatus) (rc : Nibble) : (s.resync st rc).v64OutHi = s.v64OutHi := by
  unfold State.resync; split <;> rfl
@[simp] theorem State.resync_dout (st : CheckStatus) (rc : Nibble) : (s.resync st rc).dout = s.dout := by
  unfold State.resync; split <;> rfl
@[simp] theorem State.resync_result (st : CheckStatus) (rc : Nibble) : (s.resync st rc).result = s.result := by
  unfold State.resync; split <;> rfl
@[simp] theorem State.resync_resValid (st : CheckStatus) (rc : Nibble) : (s.resync st rc).resValid = s.resValid := by
  unfold State.resync; split <;> rfl
@[simp] theorem State.resync_err (st : CheckStatus) (rc : Nibble) : (s.resync st rc).err = s.err := by
  unfold State.resync; split <;> rfl
@[simp] theorem State.resync_script (st : CheckStatus) (rc : Nibble) : (s.resync st rc).script = s.script := by
  unfold State.resync; split <;> rfl
@[simp] theorem State.resync_resp (st : CheckStatus) (rc : Nibble) : (s.resync st rc).resp = s.resp := by
  unfold State.resync; split <;> rfl
@[simp] theorem State.resync_resets (st : CheckStatus) (rc : Nibble) : (s.resync st rc).resets = s.resets := by
  unfold State.resync; split <;> rfl

end Sys2Proof.Machine
end

