-- ==== Sys2Proof/Laws/Ops.lean ====
section
/-! SUPPORT. What each named update does to the buffer bytes, the frame in FIN and the 64-bit operand, and what the
buffer writes leave. -/

namespace Sys2Proof.Machine

variable (s : State)

/-! ### `State.finDraw` -/

@[simp] theorem State.putFin_finDraw (i : Nat) (b : Byte) : (s.putFin i b).finDraw = s.finDraw := rfl
@[simp] theorem State.putFout_finDraw (out : List Byte) : (s.putFout out).finDraw = s.finDraw := rfl
@[simp] theorem State.raise_finDraw (e : ErrCode) : (s.raise e).finDraw = s.finDraw := rfl
@[simp] theorem State.done_finDraw : (s.done).finDraw = s.finDraw := rfl
@[simp] theorem State.setDout_finDraw (b : Byte) : (s.setDout b).finDraw = s.finDraw := rfl
@[simp] theorem State.setTable_finDraw (t : Vector Byte 256) : (s.setTable t).finDraw = s.finDraw := rfl
@[simp] theorem State.latch_finDraw (c : ActConfig) : (s.latch c).finDraw = s.finDraw := rfl
@[simp] theorem State.setFoutLen_finDraw (n : Nat) : (s.setFoutLen n).finDraw = s.finDraw := rfl
@[simp] theorem State.advanceCtr_finDraw : (s.advanceCtr).finDraw = s.finDraw := rfl
@[simp] theorem State.setCtr_finDraw (c : Nibble) : (s.setCtr c).finDraw = s.finDraw := rfl
@[simp] theorem State.setV64Out_finDraw (v : BitVec 64) : (s.setV64Out v).finDraw = s.finDraw := rfl
@[simp] theorem State.report_finDraw (st : CheckStatus) : (s.report st).finDraw = s.finDraw := rfl
@[simp] theorem State.answer_finDraw (r : Response) : (s.answer r).finDraw = s.finDraw := rfl
@[simp] theorem State.setScript_finDraw (es : List HostEvent) : (s.setScript es).finDraw = s.finDraw := rfl
@[simp] theorem State.setFinLen_finDraw (v : Word) : (s.setFinLen v).finDraw = s.finDraw := rfl
@[simp] theorem State.setStaging_finDraw (c : Staging) : (s.setStaging c).finDraw = s.finDraw := rfl
@[simp] theorem State.setV64InLo_finDraw (v : Word) : (s.setV64InLo v).finDraw = s.finDraw := rfl
@[simp] theorem State.setV64InHi_finDraw (v : Word) : (s.setV64InHi v).finDraw = s.finDraw := rfl
@[simp] theorem State.emitFrame_finDraw (out : List Byte) (n : Nat) : (s.emitFrame out n).finDraw = s.finDraw := rfl

@[simp] theorem State.resync_finDraw (st : CheckStatus) (rc : Nibble) : (s.resync st rc).finDraw = s.finDraw := by
  unfold State.resync; split <;> rfl

/-! ### `State.foutDraw` -/

@[simp] theorem State.putFin_foutDraw (i : Nat) (b : Byte) : (s.putFin i b).foutDraw = s.foutDraw := rfl
@[simp] theorem State.putFout_foutDraw (out : List Byte) : (s.putFout out).foutDraw = s.foutDraw := rfl
@[simp] theorem State.raise_foutDraw (e : ErrCode) : (s.raise e).foutDraw = s.foutDraw := rfl
@[simp] theorem State.done_foutDraw : (s.done).foutDraw = s.foutDraw := rfl
@[simp] theorem State.setDout_foutDraw (b : Byte) : (s.setDout b).foutDraw = s.foutDraw := rfl
@[simp] theorem State.setTable_foutDraw (t : Vector Byte 256) : (s.setTable t).foutDraw = s.foutDraw := rfl
@[simp] theorem State.latch_foutDraw (c : ActConfig) : (s.latch c).foutDraw = s.foutDraw := rfl
@[simp] theorem State.setFoutLen_foutDraw (n : Nat) : (s.setFoutLen n).foutDraw = s.foutDraw := rfl
@[simp] theorem State.advanceCtr_foutDraw : (s.advanceCtr).foutDraw = s.foutDraw := rfl
@[simp] theorem State.setCtr_foutDraw (c : Nibble) : (s.setCtr c).foutDraw = s.foutDraw := rfl
@[simp] theorem State.setV64Out_foutDraw (v : BitVec 64) : (s.setV64Out v).foutDraw = s.foutDraw := rfl
@[simp] theorem State.report_foutDraw (st : CheckStatus) : (s.report st).foutDraw = s.foutDraw := rfl
@[simp] theorem State.answer_foutDraw (r : Response) : (s.answer r).foutDraw = s.foutDraw := rfl
@[simp] theorem State.setScript_foutDraw (es : List HostEvent) : (s.setScript es).foutDraw = s.foutDraw := rfl
@[simp] theorem State.setFinLen_foutDraw (v : Word) : (s.setFinLen v).foutDraw = s.foutDraw := rfl
@[simp] theorem State.setStaging_foutDraw (c : Staging) : (s.setStaging c).foutDraw = s.foutDraw := rfl
@[simp] theorem State.setV64InLo_foutDraw (v : Word) : (s.setV64InLo v).foutDraw = s.foutDraw := rfl
@[simp] theorem State.setV64InHi_foutDraw (v : Word) : (s.setV64InHi v).foutDraw = s.foutDraw := rfl
@[simp] theorem State.emitFrame_foutDraw (out : List Byte) (n : Nat) : (s.emitFrame out n).foutDraw = s.foutDraw := rfl

@[simp] theorem State.resync_foutDraw (st : CheckStatus) (rc : Nibble) : (s.resync st rc).foutDraw = s.foutDraw := by
  unfold State.resync; split <;> rfl

/-! ### `State.finByte` -/

@[simp] theorem State.putFout_finByte (out : List Byte) (k : Nat) : (s.putFout out).finByte k = s.finByte k := rfl
@[simp] theorem State.raise_finByte (e : ErrCode) (k : Nat) : (s.raise e).finByte k = s.finByte k := rfl
@[simp] theorem State.done_finByte (k : Nat) : (s.done).finByte k = s.finByte k := rfl
@[simp] theorem State.setDout_finByte (b : Byte) (k : Nat) : (s.setDout b).finByte k = s.finByte k := rfl
@[simp] theorem State.setTable_finByte (t : Vector Byte 256) (k : Nat) : (s.setTable t).finByte k = s.finByte k := rfl
@[simp] theorem State.latch_finByte (c : ActConfig) (k : Nat) : (s.latch c).finByte k = s.finByte k := rfl
@[simp] theorem State.setFoutLen_finByte (n : Nat) (k : Nat) : (s.setFoutLen n).finByte k = s.finByte k := rfl
@[simp] theorem State.advanceCtr_finByte (k : Nat) : (s.advanceCtr).finByte k = s.finByte k := rfl
@[simp] theorem State.setCtr_finByte (c : Nibble) (k : Nat) : (s.setCtr c).finByte k = s.finByte k := rfl
@[simp] theorem State.setV64Out_finByte (v : BitVec 64) (k : Nat) : (s.setV64Out v).finByte k = s.finByte k := rfl
@[simp] theorem State.report_finByte (st : CheckStatus) (k : Nat) : (s.report st).finByte k = s.finByte k := rfl
@[simp] theorem State.answer_finByte (r : Response) (k : Nat) : (s.answer r).finByte k = s.finByte k := rfl
@[simp] theorem State.setScript_finByte (es : List HostEvent) (k : Nat) : (s.setScript es).finByte k = s.finByte k := rfl
@[simp] theorem State.setFinLen_finByte (v : Word) (k : Nat) : (s.setFinLen v).finByte k = s.finByte k := rfl
@[simp] theorem State.setStaging_finByte (c : Staging) (k : Nat) : (s.setStaging c).finByte k = s.finByte k := rfl
@[simp] theorem State.setV64InLo_finByte (v : Word) (k : Nat) : (s.setV64InLo v).finByte k = s.finByte k := rfl
@[simp] theorem State.setV64InHi_finByte (v : Word) (k : Nat) : (s.setV64InHi v).finByte k = s.finByte k := rfl
@[simp] theorem State.emitFrame_finByte (out : List Byte) (n : Nat) (k : Nat) : (s.emitFrame out n).finByte k = s.finByte k := rfl

@[simp] theorem State.resync_finByte (st : CheckStatus) (rc : Nibble) (k : Nat) :
    (s.resync st rc).finByte k = s.finByte k := by
  unfold State.resync; split <;> rfl

/-! ### `State.foutByte` -/

@[simp] theorem State.putFin_foutByte (i : Nat) (b : Byte) (k : Nat) : (s.putFin i b).foutByte k = s.foutByte k := rfl
@[simp] theorem State.raise_foutByte (e : ErrCode) (k : Nat) : (s.raise e).foutByte k = s.foutByte k := rfl
@[simp] theorem State.done_foutByte (k : Nat) : (s.done).foutByte k = s.foutByte k := rfl
@[simp] theorem State.setDout_foutByte (b : Byte) (k : Nat) : (s.setDout b).foutByte k = s.foutByte k := rfl
@[simp] theorem State.setTable_foutByte (t : Vector Byte 256) (k : Nat) : (s.setTable t).foutByte k = s.foutByte k := rfl
@[simp] theorem State.latch_foutByte (c : ActConfig) (k : Nat) : (s.latch c).foutByte k = s.foutByte k := rfl
@[simp] theorem State.setFoutLen_foutByte (n : Nat) (k : Nat) : (s.setFoutLen n).foutByte k = s.foutByte k := rfl
@[simp] theorem State.advanceCtr_foutByte (k : Nat) : (s.advanceCtr).foutByte k = s.foutByte k := rfl
@[simp] theorem State.setCtr_foutByte (c : Nibble) (k : Nat) : (s.setCtr c).foutByte k = s.foutByte k := rfl
@[simp] theorem State.setV64Out_foutByte (v : BitVec 64) (k : Nat) : (s.setV64Out v).foutByte k = s.foutByte k := rfl
@[simp] theorem State.report_foutByte (st : CheckStatus) (k : Nat) : (s.report st).foutByte k = s.foutByte k := rfl
@[simp] theorem State.answer_foutByte (r : Response) (k : Nat) : (s.answer r).foutByte k = s.foutByte k := rfl
@[simp] theorem State.setScript_foutByte (es : List HostEvent) (k : Nat) : (s.setScript es).foutByte k = s.foutByte k := rfl
@[simp] theorem State.setFinLen_foutByte (v : Word) (k : Nat) : (s.setFinLen v).foutByte k = s.foutByte k := rfl
@[simp] theorem State.setStaging_foutByte (c : Staging) (k : Nat) : (s.setStaging c).foutByte k = s.foutByte k := rfl
@[simp] theorem State.setV64InLo_foutByte (v : Word) (k : Nat) : (s.setV64InLo v).foutByte k = s.foutByte k := rfl
@[simp] theorem State.setV64InHi_foutByte (v : Word) (k : Nat) : (s.setV64InHi v).foutByte k = s.foutByte k := rfl

@[simp] theorem State.resync_foutByte (st : CheckStatus) (rc : Nibble) (k : Nat) :
    (s.resync st rc).foutByte k = s.foutByte k := by
  unfold State.resync; split <;> rfl

/-! ### `State.finFrame` -/

@[simp] theorem State.putFout_finFrame (out : List Byte) (k : Nat) : (s.putFout out).finFrame k = s.finFrame k := rfl
@[simp] theorem State.raise_finFrame (e : ErrCode) (k : Nat) : (s.raise e).finFrame k = s.finFrame k := rfl
@[simp] theorem State.done_finFrame (k : Nat) : (s.done).finFrame k = s.finFrame k := rfl
@[simp] theorem State.setDout_finFrame (b : Byte) (k : Nat) : (s.setDout b).finFrame k = s.finFrame k := rfl
@[simp] theorem State.setTable_finFrame (t : Vector Byte 256) (k : Nat) : (s.setTable t).finFrame k = s.finFrame k := rfl
@[simp] theorem State.latch_finFrame (c : ActConfig) (k : Nat) : (s.latch c).finFrame k = s.finFrame k := rfl
@[simp] theorem State.setFoutLen_finFrame (n : Nat) (k : Nat) : (s.setFoutLen n).finFrame k = s.finFrame k := rfl
@[simp] theorem State.advanceCtr_finFrame (k : Nat) : (s.advanceCtr).finFrame k = s.finFrame k := rfl
@[simp] theorem State.setCtr_finFrame (c : Nibble) (k : Nat) : (s.setCtr c).finFrame k = s.finFrame k := rfl
@[simp] theorem State.setV64Out_finFrame (v : BitVec 64) (k : Nat) : (s.setV64Out v).finFrame k = s.finFrame k := rfl
@[simp] theorem State.report_finFrame (st : CheckStatus) (k : Nat) : (s.report st).finFrame k = s.finFrame k := rfl
@[simp] theorem State.answer_finFrame (r : Response) (k : Nat) : (s.answer r).finFrame k = s.finFrame k := rfl
@[simp] theorem State.setScript_finFrame (es : List HostEvent) (k : Nat) : (s.setScript es).finFrame k = s.finFrame k := rfl
@[simp] theorem State.setFinLen_finFrame (v : Word) (k : Nat) : (s.setFinLen v).finFrame k = s.finFrame k := rfl
@[simp] theorem State.setStaging_finFrame (c : Staging) (k : Nat) : (s.setStaging c).finFrame k = s.finFrame k := rfl
@[simp] theorem State.setV64InLo_finFrame (v : Word) (k : Nat) : (s.setV64InLo v).finFrame k = s.finFrame k := rfl
@[simp] theorem State.setV64InHi_finFrame (v : Word) (k : Nat) : (s.setV64InHi v).finFrame k = s.finFrame k := rfl
@[simp] theorem State.emitFrame_finFrame (out : List Byte) (n : Nat) (k : Nat) : (s.emitFrame out n).finFrame k = s.finFrame k := rfl

@[simp] theorem State.resync_finFrame (st : CheckStatus) (rc : Nibble) (k : Nat) :
    (s.resync st rc).finFrame k = s.finFrame k := by
  unfold State.resync; split <;> rfl

/-! ### `State.v64In` -/

@[simp] theorem State.putFin_v64In (i : Nat) (b : Byte) : (s.putFin i b).v64In = s.v64In := rfl
@[simp] theorem State.putFout_v64In (out : List Byte) : (s.putFout out).v64In = s.v64In := rfl
@[simp] theorem State.raise_v64In (e : ErrCode) : (s.raise e).v64In = s.v64In := rfl
@[simp] theorem State.done_v64In : (s.done).v64In = s.v64In := rfl
@[simp] theorem State.setDout_v64In (b : Byte) : (s.setDout b).v64In = s.v64In := rfl
@[simp] theorem State.setTable_v64In (t : Vector Byte 256) : (s.setTable t).v64In = s.v64In := rfl
@[simp] theorem State.latch_v64In (c : ActConfig) : (s.latch c).v64In = s.v64In := rfl
@[simp] theorem State.setFoutLen_v64In (n : Nat) : (s.setFoutLen n).v64In = s.v64In := rfl
@[simp] theorem State.advanceCtr_v64In : (s.advanceCtr).v64In = s.v64In := rfl
@[simp] theorem State.setCtr_v64In (c : Nibble) : (s.setCtr c).v64In = s.v64In := rfl
@[simp] theorem State.setV64Out_v64In (v : BitVec 64) : (s.setV64Out v).v64In = s.v64In := rfl
@[simp] theorem State.report_v64In (st : CheckStatus) : (s.report st).v64In = s.v64In := rfl
@[simp] theorem State.answer_v64In (r : Response) : (s.answer r).v64In = s.v64In := rfl
@[simp] theorem State.setScript_v64In (es : List HostEvent) : (s.setScript es).v64In = s.v64In := rfl
@[simp] theorem State.setFinLen_v64In (v : Word) : (s.setFinLen v).v64In = s.v64In := rfl
@[simp] theorem State.setStaging_v64In (c : Staging) : (s.setStaging c).v64In = s.v64In := rfl
@[simp] theorem State.emitFrame_v64In (out : List Byte) (n : Nat) : (s.emitFrame out n).v64In = s.v64In := rfl

@[simp] theorem State.resync_v64In (st : CheckStatus) (rc : Nibble) : (s.resync st rc).v64In = s.v64In := by
  unfold State.resync; split <;> rfl

/-! ### The buffers -/

variable {s}

/-- `FIN` after a host write of one of its bytes (20_memory.md R64). -/
theorem State.putFin_finByte (h : s.fin.wf s.finDraw) (i : Nat) (b : Byte) (k : Nat) :
    (s.putFin i b).finByte k = if k = i then b else s.finByte k :=
  Memory.read_write h i k b

/-- `FOUT` after a frame is written to it (42_protect.md R176): the frame, then the bytes it held before. -/
theorem State.putFout_foutByte (h : s.fout.wf s.foutDraw) (out : List Byte) (k : Nat) :
    (s.putFout out).foutByte k = out.getD k (s.foutByte k) := by
  have := Memory.read_writeFrom h 0 k out
  rwa [if_pos (Nat.zero_le k)] at this

theorem State.emitFrame_foutByte (h : s.fout.wf s.foutDraw) (out : List Byte) (n k : Nat) :
    (s.emitFrame out n).foutByte k = out.getD k (s.foutByte k) :=
  State.putFout_foutByte h out k

/-- `FOUT` bytes above a frame written to it are unchanged, in any state (10_state.md R32). -/
theorem State.emitFrame_foutByte_above (out : List Byte) (n : Nat) {k : Nat} (hk : out.length ≤ k) :
    (s.emitFrame out n).foutByte k = s.foutByte k :=
  Memory.read_writeFrom_outside (.inr (by omega))

@[simp] theorem State.finFrame_length (n : Nat) : (s.finFrame n).length = n := by
  simp [State.finFrame]

theorem State.finFrame_getElem {n i : Nat} (h : i < (s.finFrame n).length) :
    (s.finFrame n)[i] = s.finByte i := by
  simp [State.finFrame]

/-- The frame in `FIN` is a matter of its bytes alone. -/
theorem State.finFrame_congr {t : State} {n : Nat} (h : ∀ i, i < n → s.finByte i = t.finByte i) :
    s.finFrame n = t.finFrame n :=
  List.map_congr_left fun i hi => h i (List.mem_range.mp hi)

end Sys2Proof.Machine
end

