-- ==== Sys2Proof/Laws/HostPort.lean ====
section
/-! SUPPORT. The laws of the host port: the address map both ways, what each access names, and what a step does
with the first event of the host's stream. -/

namespace Sys2Proof.Machine

variable {s : State}

/-- A step takes the first event of the host's stream (20_memory.md R73). -/
theorem step_of_script {e : HostEvent} {rest : List HostEvent} (h : s.script = e :: rest) :
    step s = (s.setScript rest).perform e := by
  unfold step State.hostStep
  rw [h]

/-- Every register is found at its offset (R62). -/
@[simp] theorem regAt_regOffset (r : Reg) : regAt (regOffset r) = some r := by
  cases r <;> rfl

/-- Only a register's own offset names it (R62, R63). -/
theorem eq_regOffset_of_regAt {addr : Nat} {r : Reg} (h : regAt addr = some r) : addr = regOffset r := by
  unfold regAt at h
  split at h <;> cases h <;> rfl

/-- A 4-byte access at a register's offset names that register (R63). -/
@[simp] theorem locate_regOffset (frameMax : Nat) (r : Reg) :
    locate frameMax (regOffset r) 4 = some (.reg r) := by
  rw [locate, if_pos rfl, regAt_regOffset]
  rfl

/-- A 1-byte access at 0x1000 + i names `FIN[i]` (R64). -/
theorem locate_fin {i : Nat} (h : i < Config.frameMax) :
    locate Config.frameMax (0x1000 + i) 1 = some (.fin i) := by
  rw [locate, if_neg (by decide), if_pos rfl, if_pos (by omega)]
  simp

/-- A 1-byte access at 0x2000 + i names `FOUT[i]` (R64), the buffers holding at most 4096 bytes. -/
theorem locate_fout (hmax : Config.frameMax ≤ 4096) {i : Nat} (h : i < Config.frameMax) :
    locate Config.frameMax (0x2000 + i) 1 = some (.fout i) := by
  rw [locate, if_neg (by decide), if_pos rfl, if_neg (by omega), if_pos (by omega)]
  simp

/-- The write of a command word (30_encoding.md R90). -/
theorem State.portWrite_cmd (w : Word) : s.portWrite 0x000 4 w = (s.answer .written).command w := rfl

/-- The write of a read-write register (20_memory.md R63). -/
theorem State.portWrite_reg {r : Reg} {v : Word} {t : State} (h : s.storeReg v r = some t) :
    s.portWrite (regOffset r) 4 v = .next (t.answer .written) := by
  unfold State.portWrite
  rw [locate_regOffset]
  split
  · rename_i hr
    cases hr
    cases h
  · rename_i hr
    cases hr
    rw [h]
  all_goals rename_i hr; cases hr

end Sys2Proof.Machine
end

