-- ==== Sys2Proof/Laws/PerInstr.lean ====
section
/-! SUPPORT. The law every command obeys as written form: its encoding is a word of the opcode map
(30_encoding.md R93, R95). -/

namespace Sys2Proof.Laws.LegalEncoding

/-- The encoding of the command is well formed. -/
def Statement (i : Instr) : Prop := wellFormedWord (encode i) = true

theorem gentbl : Statement .gentbl := by unfold Statement; decide

theorem tblrd (idx : Byte) : Statement (.tblrd idx) := by
  unfold Statement; revert idx; decide

theorem crc8 (start : Byte) (first : Bool) : Statement (.crc8 start first) := by
  unfold Statement; revert start first; decide

theorem config : Statement .config := by unfold Statement; decide

theorem protect : Statement .protect := by unfold Statement; decide

theorem protect64 : Statement .protect64 := by unfold Statement; decide

theorem check : Statement .check := by unfold Statement; decide

end Sys2Proof.Laws.LegalEncoding
end

