-- ==== Sys2Proof/Tests/Slice0.lean ====
section
/-! SUPPORT. Tests on the spec's own vectors (95_test_vectors.md; each docstring names the vector), and for each
obligation with hypotheses a concrete state and operands that meet them. -/

namespace Sys2Proof.Tests

open Sys2Proof.Machine

/-! ### The states the tests start from -/

/-- The scenario configuration of 95_test_vectors.md, as staged. -/
def scenario : Staging := ⟨0x123, 64, 0, 8, 0, 12, 3⟩

/-- The scenario configuration, as `CONFIG` latches it (41_config.md R152). -/
def scenarioAct : ActConfig := ⟨0x123, 64, .both, 8, 0, 12, 3⟩

/-- The configuration of V-P4 and V-K11, mode `DATA_ID_NIBBLE`. -/
def nibbleAct : ActConfig := ⟨0xABC, 64, .dataIdNibble, 8, 0, 12, 3⟩

/-- The identifier nibble at shift 7 of the last byte, where one bit of it fits (42_protect.md R170). -/
def edgeAct : ActConfig := ⟨0xF00, 64, .dataIdNibble, 8, 0, 63, 3⟩

/-- Layout B of V-P3. -/
def layoutB : ActConfig := ⟨0xABC, 64, .both, 4, 56, 0, 2⟩

/-- The scenario's eight zero bytes. -/
def zeroFrame : List Byte := [0, 0, 0, 0, 0, 0, 0, 0]

/-- A booted engine with configuration `c` and counter `ctr`, `FIN_LEN` at the frame length of 8. -/
def ready (c : ActConfig) (ctr : Nibble) : State :=
  { State.reset with tbl := crcTable, tblValid := true, act := c, cfgValid := true, ctr := ctr, finLen := 8 }

/-- The same with `bs` written to `FIN` and its length in `FIN_LEN`. -/
def staged (c : ActConfig) (ctr : Nibble) (bs : List Byte) : State :=
  { ready c ctr with fin := Memory.writeFrom State.reset.finDraw [] 0 bs, finLen := BitVec.ofNat 32 bs.length }

/-- The same with the bytes of `FIN` listed outright, so that reading them evaluates. -/
def listed (c : ActConfig) (ctr : Nibble) (bs : List Byte) : State :=
  { ready c ctr with fin := (List.range bs.length).zip bs, finLen := BitVec.ofNat 32 bs.length }

/-- The reset state with the staging registers at `c`. -/
def stagedConfig (c : Staging) : State := { State.reset with cfg := c }

/-- The reset state with the host about to issue `es`. -/
def issuing (es : List HostEvent) : State := State.reset.setScript es

/-- The next state of an outcome; the reset state stands for "none". -/
def after : Host.Outcome State Fault Refusal → State
  | .next t => t
  | .fault _ => State.reset
  | .refused _ => State.reset

theorem staged_finFrame (c : ActConfig) (ctr : Nibble) (bs : List Byte) :
    (staged c ctr bs).finFrame bs.length = bs := by
  have hw : Memory.wf State.reset.finDraw [] := ⟨List.Pairwise.nil, by simp⟩
  refine frame_ext (by simp [State.finFrame]) fun i hi => ?_
  have hi' : i < bs.length := by simpa [State.finFrame] using hi
  rw [byteAt_of_lt hi, byteAt_of_lt hi']
  simp only [State.finFrame, List.getElem_map, List.getElem_range]
  change Memory.read State.reset.finDraw (Memory.writeFrom State.reset.finDraw [] 0 bs) i = _
  rw [Memory.read_writeFrom hw]
  simp [hi']

theorem staged_memOk (c : ActConfig) (ctr : Nibble) {bs : List Byte} (h : bs.length ≤ 8) :
    (staged c ctr bs).MemOk := by
  have hw : Memory.wf State.reset.finDraw [] := ⟨List.Pairwise.nil, by simp⟩
  refine ⟨Memory.writeFrom_wf hw _ _, ⟨List.Pairwise.nil, fun _ h => (by cases h)⟩, fun c hc => ?_, fun _ h => (by cases h)⟩
  have hm := Config.frameMax_ge
  rcases Memory.mem_writeFrom (dflt := State.reset.finDraw) hc with h' | h'
  · cases h'
  · omega

theorem reset_memOk : State.reset.MemOk :=
  ⟨⟨List.Pairwise.nil, fun _ h => (by cases h)⟩, ⟨List.Pairwise.nil, fun _ h => (by cases h)⟩,
    fun _ h => (by cases h), fun _ h => (by cases h)⟩

theorem scenario_legal : ActLegal Config.frameMax scenarioAct := by
  have := Config.frameMax_ge
  refine ⟨by decide, by decide, ?_, by decide, by decide, by decide, by decide, by decide, by decide⟩
  change 8 ≤ Config.frameMax
  omega

theorem nibble_legal : ActLegal Config.frameMax nibbleAct := by
  have := Config.frameMax_ge
  refine ⟨by decide, by decide, ?_, by decide, by decide, by decide, by decide, by decide, by decide⟩
  change 8 ≤ Config.frameMax
  omega

theorem edge_legal : ActLegal Config.frameMax edgeAct := by
  have := Config.frameMax_ge
  refine ⟨by decide, by decide, ?_, by decide, by decide, by decide, by decide, by decide, by decide⟩
  change 8 ≤ Config.frameMax
  omega

theorem scenario_disjoint : LayoutDisjoint scenarioAct := ⟨by decide, by decide, by decide⟩

theorem nibble_disjoint : LayoutDisjoint nibbleAct := ⟨by decide, by decide, by decide⟩

/-! ### Decoding: words written out from 30_encoding.md R91 to R95 -/

/-- Every row's word, its bits written out field by field: RSV, F, A, OPC (R91, R93). -/
theorem test_decode_words :
    decode (0b000000000000000#15 ++ 0b0#1 ++ 0b00000000#8 ++ 0b00000001#8) = .ok .gentbl ∧
    decode (0b000000000000000#15 ++ 0b0#1 ++ 0b00011101#8 ++ 0b00000010#8) = .ok (.tblrd 0x1D) ∧
    decode (0b000000000000000#15 ++ 0b1#1 ++ 0b11111111#8 ++ 0b00000011#8) = .ok (.crc8 0xFF true) ∧
    decode (0b000000000000000#15 ++ 0b0#1 ++ 0b01010100#8 ++ 0b00000011#8) = .ok (.crc8 0x54 false) ∧
    decode (0b000000000000000#15 ++ 0b0#1 ++ 0b00000000#8 ++ 0b00010000#8) = .ok .config ∧
    decode (0b000000000000000#15 ++ 0b0#1 ++ 0b00000000#8 ++ 0b00010001#8) = .ok .protect ∧
    decode (0b000000000000000#15 ++ 0b0#1 ++ 0b00000000#8 ++ 0b00010010#8) = .ok .protect64 ∧
    decode (0b000000000000000#15 ++ 0b0#1 ++ 0b00000000#8 ++ 0b00010011#8) = .ok .check := by decide

/-- V-I3: the legal border cases. -/
theorem test_decode_border :
    decode 0x00010003 = .ok (.crc8 0x00 true) ∧ decode 0x0000FF02 = .ok (.tblrd 0xFF) := by decide

/-- V-I1: unknown opcodes. -/
theorem test_illegal_opcode :
    [0x00000000#32, 0xFFFFFFFF#32, 0x00000004#32, 0x0000000F#32, 0x00000014#32, 0x000000FF#32].all
      (fun w => wellFormedWord w == false && decode w matches .error _) = true := by decide +kernel

/-- V-I1: `A != 0` where the opcode has no `A`. -/
theorem test_illegal_byte :
    [0x00000101#32, 0x00000110#32, 0x00000111#32, 0x00000112#32, 0x00000113#32].all
      (fun w => wellFormedWord w == false && decode w matches .error .byteWithoutOperand) = true := by decide +kernel

/-- V-I1: `F = 1` outside `CRC8`. -/
theorem test_illegal_flag :
    [0x00010001#32, 0x00010002#32, 0x00010010#32, 0x00010011#32].all
      (fun w => wellFormedWord w == false && decode w matches .error .flagWithoutOperand) = true := by decide +kernel

/-- V-I1: `RSV != 0`. -/
theorem test_illegal_reserved :
    [0x00020001#32, 0x00020003#32, 0x80000003#32].all
      (fun w => wellFormedWord w == false && decode w matches .error .reservedBits) = true := by decide +kernel

/-- The words of R93's rows, by mask and match. -/
theorem test_wellFormed :
    [0x00000001#32, 0x00001D02#32, 0x0001FF03#32, 0x00000010#32, 0x00000011#32, 0x00000012#32, 0x00000013#32].all
      wellFormedWord = true := by decide +kernel

/-- V-I2: `IllegalCommand` outranks the state. -/
theorem test_illegal_outranks : (after (State.reset.command 0x00000111)).err = .illegalCommand := by decide

theorem test_decodeTableWord :
    decodeTableWord 32 0x1FF03 = some (.crc8 0xFF true) ∧ decodeTableWord 16 0x1FF03 = some (.crc8 0xFF false) ∧
      decodeTableWord 32 0 = none ∧ decodeTableWord 40 0x100000001 = none := by decide

theorem test_withFetchWord :
    (after (step (State.reset.withFetchWord 32 0x10))).err = .cfgDataLen ∧
      (after (step (State.reset.withFetchWord 32 0x13))).err = .noTable := by decide

/-! ### The CRC engine -/

/-- V-T1, V-T3. -/
theorem test_gentbl :
    (after (exec .gentbl State.reset)).tbl[0x01] = 0x1D ∧ (after (exec .gentbl State.reset)).tbl[0x80] = 0x26 ∧
      (after (exec .gentbl State.reset)).tbl[0xFF] = 0xC4 ∧ (after (exec .gentbl State.reset)).statusWord = 1 := by
  decide +kernel

/-- V-T1: word 0x00001D02. -/
theorem test_tblrd : (after ((ready scenarioAct 0).command 0x00001D02)).dout = 0x4C := by decide +kernel

/-- V-T5. -/
theorem test_tblrd_noTable :
    errCode (after (State.reset.command 0x00000002)).err = 2 ∧ (after (State.reset.command 0x00000002)).dout = 0 := by
  decide

/-- V-C3, V-C4: the checksum of "123456789" in one piece and in two. -/
theorem test_crc8_check_value :
    crcRun crcTable 0xFF [0x31, 0x32, 0x33, 0x34, 0x35, 0x36, 0x37, 0x38, 0x39] = 0xB4 ∧
      crcRun crcTable 0xFF [0x31, 0x32, 0x33, 0x34] = 0x54 ∧
      crcRun crcTable 0x54 [0x35, 0x36, 0x37, 0x38, 0x39] = 0xB4 := by decide +kernel

/-- V-C8b: the command itself, over the bytes loaded. -/
theorem test_crc8 :
    exec (.crc8 0xFF true) (listed scenarioAct 0 [0xF2, 0x01, 0x83]) =
      .next { listed scenarioAct 0 [0xF2, 0x01, 0x83] with dout := 0xC8 } := by
  have hm := Config.frameMax_ge
  have hl : (listed scenarioAct 0 [0xF2, 0x01, 0x83]).finLen.toNat = 3 := rfl
  have hd : crcRun (listed scenarioAct 0 [0xF2, 0x01, 0x83]).tbl 0xFF
      ((listed scenarioAct 0 [0xF2, 0x01, 0x83]).finFrame 3) = 0xC8 := by decide +kernel
  change execCrc8 _ true _ = _
  rw [execCrc8, if_neg (by decide), if_neg (by omega), hl, hd]
  rfl

/-! ### The configuration (V-G, with `FRAME_MAX = 64`) -/

/-- V-G1, V-G5, V-G8, V-G11, V-G13, V-G16 to V-G18, V-G20, V-G21, V-G26: accepted. -/
theorem test_config_accepts :
    ∀ c ∈ [ scenario, { scenario with dataLen := 512 }, { scenario with maxDelta := 14 },
            { scenario with crcOff := 56 }, { scenario with ctrOff := 60 }, { scenario with ctrOff := 11 },
            { scenario with nibOff := 64 }, { scenario with nibOff := 0xFFFFFFFF },
            { scenario with mode := 1, nibOff := 15 }, { scenario with id := 0xF123 },
            { scenario with dataLen := 8, ctrOff := 0 } ],
      validate 64 c = none := by decide

/-- V-G2 to V-G4, V-G6, V-G7, V-G9, V-G10, V-G12, V-G14, V-G15, V-G19, V-G22 to V-G25, V-G27: rejected. -/
theorem test_config_rejects :
    ∀ p ∈ [ ({ scenario with dataLen := 0 }, ErrCode.cfgDataLen), ({ scenario with dataLen := 60 }, .cfgDataLen),
            ({ scenario with dataLen := 520 }, .cfgDataLen), ({ scenario with mode := 2 }, .cfgRange),
            ({ scenario with maxDelta := 15 }, .cfgRange), ({ scenario with crcOff := 4 }, .cfgCrcAlign),
            ({ scenario with crcOff := 64 }, .cfgBounds), ({ scenario with ctrOff := 64 }, .cfgBounds),
            ({ scenario with ctrOff := 61 }, .cfgCtrBit), ({ scenario with ctrOff := 13 }, .cfgCtrBit),
            ({ scenario with mode := 1, nibOff := 64 }, .cfgBounds),
            ({ scenario with dataLen := 60, mode := 2, crcOff := 4 }, .cfgDataLen),
            ({ scenario with mode := 2, crcOff := 4 }, .cfgRange),
            ({ scenario with crcOff := 4, ctrOff := 64 }, .cfgCrcAlign),
            ({ scenario with ctrOff := 69 }, .cfgBounds), ({ scenario with dataLen := 8 }, .cfgBounds) ],
      validate 64 p.1 = some p.2 := by decide

/-- V-G1, V-G21: what is latched. -/
theorem test_latched :
    latched scenario = scenarioAct ∧ (latched { scenario with id := 0xF123 }).id = 0x123 ∧
      actN scenarioAct = 8 ∧ actCtrByte scenarioAct = 1 ∧ actCtrSh scenarioAct = 0 ∧ actCrcByte scenarioAct = 0 ∧
      actIdLo scenarioAct = 0x23 ∧ actIdHi scenarioAct = 0x01 := by decide

/-! ### The packer -/

/-- V-N1 to V-N11. -/
theorem test_nibbles :
    nibPut 0xFF 4 0 = 0x0F ∧ nibPut 0x5A 0 3 = 0x53 ∧ nibPut 0x12 1 0xF = 0x1E ∧ nibPut 0xFF 3 5 = 0xAF ∧
      nibPut 0x00 6 0xF = 0xC0 ∧ nibPut 0x00 5 0xA = 0x40 ∧ nibPut 0xFF 7 0 = 0x7F ∧ nibGet 0xA5 1 = 2 ∧
      nibGet 0x3C 2 = 0xF ∧ nibGet 0xC0 6 = 3 ∧ nibGet 0x80 7 = 1 := by decide

/-- V-P2, V-P3, V-P4, V-P5. -/
theorem test_frames :
    p11Frame crcTable scenarioAct [0x99, 0xAB, 0x01, 0x02, 0x03, 0x04, 0x05, 0x06] 2 =
      [0xC5, 0xA2, 0x01, 0x02, 0x03, 0x04, 0x05, 0x06] ∧
    p11Frame crcTable layoutB [0xFF, 0x01, 0x02, 0x03, 0x04, 0x05, 0x06, 0x00] 1 =
      [0x1F, 0x01, 0x02, 0x03, 0x04, 0x05, 0x06, 0xB0] ∧
    p11Frame crcTable nibbleAct zeroFrame 1 = [0xBB, 0xA1, 0, 0, 0, 0, 0, 0] ∧
    p11Frame crcTable ⟨0x5A7, 32, .dataIdNibble, 16, 8, 20, 1⟩ [0x11, 0x22, 0x33, 0x44] 0 =
      [0x11, 0x57, 0x50, 0x44] := by decide +kernel

/-- V-P7: the degenerate layouts, the identifier nibble at shift 6 and over the counter among them. -/
theorem test_frames_degenerate :
    p11Frame crcTable ⟨0x123, 8, .both, 0, 0, 0, 3⟩ [0x77] 9 = [0x02] ∧
    p11Frame crcTable ⟨0x123, 16, .both, 4, 0, 0, 3⟩ [0xAA, 0x55] 5 = [0xB6, 0x55] ∧
    p11Frame crcTable ⟨0xF00, 16, .dataIdNibble, 8, 0, 14, 3⟩ [0x00, 0xFF] 1 = [0x93, 0xF1] ∧
    p11Frame crcTable ⟨0xF00, 16, .dataIdNibble, 8, 0, 10, 3⟩ [0x00, 0x00] 0 = [0xBB, 0x30] := by decide +kernel

/-- V-P9: the wrap of the counter. -/
theorem test_protect_wraps :
    (after (exec .protect (listed scenarioAct 15 zeroFrame))).ctr = 0 ∧
      (after (exec .protect (listed scenarioAct 15 zeroFrame))).foutLen = 8 := by decide +kernel

/-- V-P8: one length with the code of the failure. -/
theorem test_protect_length : errCode (after (exec .protect { ready scenarioAct 0 with finLen := 7 })).err = 4 := by
  decide

/-- V-Q3, V-Q5. -/
theorem test_protect64 :
    (after (exec .protect64 { ready scenarioAct 2 with v64InLo := 0xFFFFFFFF, v64InHi := 0xFFFFFFFF })).v64OutLo =
        0xFFFFF268 ∧
      (after (exec .protect64 { ready scenarioAct 1 with v64InLo := 0x55667700, v64InHi := 0x11223344 })).v64OutLo =
        0x556671F9 ∧
      (after (exec .protect64 { ready scenarioAct 1 with v64InLo := 0x55667700, v64InHi := 0x11223344 })).v64OutHi =
        0x11223344 := by decide +kernel

/-! ### The checker -/

/-- V-K1, V-K2, V-K4, V-K5, V-K6, V-K8, V-K8d, V-K10, V-K11, V-K13: status by frame, from the counter before. -/
theorem test_statuses :
    frameStatus crcTable scenarioAct 0 [0xB0, 0, 0, 0, 0, 0, 0, 0] = .repeated ∧
    frameStatus crcTable scenarioAct 0 [0xED, 1, 0, 0, 0, 0, 0, 0] = .ok ∧
    frameStatus crcTable scenarioAct 2 [0x84, 5, 0, 0, 0, 0, 0, 0] = .okSomeLost ∧
    frameStatus crcTable scenarioAct 6 [0x85, 0x0B, 0, 0, 0, 0, 0, 0] = .error ∧
    frameStatus crcTable scenarioAct 9 [0x3E, 7, 0, 0x10, 0, 0, 0, 0] = .error ∧
    frameStatus crcTable scenarioAct 9 [0xD9, 0x0A, 0, 0, 0, 0, 0, 0] = .error ∧
    frameStatus crcTable scenarioAct 15 [0xB0, 0, 0, 0, 0, 0, 0, 0] = .ok ∧
    frameStatus crcTable scenarioAct 2 [0xC5, 0xA3, 1, 2, 3, 4, 5, 6] = .error ∧
    frameStatus crcTable nibbleAct 0 [0xBB, 0xA1, 0, 0, 0, 0, 0, 0] = .ok ∧
    frameStatus crcTable nibbleAct 1 [0xBB, 0xB1, 0, 0, 0, 0, 0, 0] = .error ∧
    frameStatus crcTable { nibbleAct with id := 0x2BC } 0 [0xBB, 0xA1, 0, 0, 0, 0, 0, 0] = .error ∧
    frameStatus crcTable { scenarioAct with maxDelta := 0 } 0 [0xED, 1, 0, 0, 0, 0, 0, 0] = .error ∧
    frameStatus crcTable { scenarioAct with maxDelta := 14 } 0 [0xB1, 0x0E, 0, 0, 0, 0, 0, 0] = .okSomeLost := by
  decide +kernel

/-- V-K4: the command itself; the counter moves to the received one. -/
theorem test_check :
    statusCode (after (exec .check (listed scenarioAct 2 [0x84, 5, 0, 0, 0, 0, 0, 0]))).result = 5 ∧
      (after (exec .check (listed scenarioAct 2 [0x84, 5, 0, 0, 0, 0, 0, 0]))).ctr = 5 ∧
      (after (exec .check (listed scenarioAct 2 [0x84, 5, 0, 0, 0, 0, 0, 0]))).statusWord = 7 := by decide +kernel

/-- V-K7: a wrong length. -/
theorem test_check_wrongInput :
    statusCode (after (exec .check { ready scenarioAct 9 with finLen := 0xFFFFFFFF })).result = 3 ∧
      (after (exec .check { ready scenarioAct 9 with finLen := 0xFFFFFFFF })).ctr = 9 := by decide

/-! ### Host accesses -/

/-- V-B1 to V-B8 with `FRAME_MAX = 64`: what an access names. -/
theorem test_locate :
    locate 64 0x004 4 = some (.reg .status) ∧ locate 64 0x004 1 = none ∧ locate 64 0x004 2 = none ∧
      locate 64 0x006 4 = none ∧ locate 64 0x03C 4 = none ∧ locate 64 0x050 4 = none ∧ locate 64 0x3FFF 1 = none ∧
      locate 64 0x1000 1 = some (.fin 0) ∧ locate 64 0x2000 1 = some (.fout 0) ∧ locate 64 0x1000 4 = none ∧
      locate 64 0x103F 1 = some (.fin 63) ∧ locate 64 0x1040 1 = none ∧ locate 64 0x018 1 = none := by decide

/-- V-B2, V-B8: reads of `CMD` and writes of read-only registers. -/
theorem test_refused :
    (after (step (issuing [memRead 0x000 4]))).resp = .busError ∧
      (after (step (issuing [memWrite 0x00C 4 5]))).resp = .busError ∧
      (after (step (issuing [memWrite 0x00C 4 5]))).ctr = 0 := by decide

/-- V-B9, V-B11: all 32 bits are stored. -/
theorem test_stored :
    (after (step (issuing [wr32 .finLen 0x12345678]))).finLen = 0x12345678 ∧
      (after (step (issuing [wr32 .cfgId 0xFFFFFFFF]))).cfg.id = 0xFFFFFFFF := by decide

/-- 30_encoding.md R96, R97: the pseudo-instructions' words. -/
theorem test_pseudo :
    crc8First = memWrite 0x000 4 0x0001FF03 ∧ crc8Cont 0x54 = memWrite 0x000 4 0x00005403 ∧
      rd32 .dout = memRead 0x014 4 ∧ rd8Fin 3 = memRead 0x1003 1 ∧ rd8Fout 1 = memRead 0x2001 1 := by decide

/-! ### The hypotheses of the obligations can be met -/

theorem test_hyp_RowsSelectTheirCommands :
    ∃ r ∈ opcodeMap, r.selects 0x0001FF03 = true := ⟨⟨"CRC8", 0x00000003, 0xFFFE00FF⟩, by decide, by decide⟩

theorem test_hyp_IllegalWordsFailAndChangeNothing :
    wellFormedWord 0x00000004 = false ∧ wellFormedWord 0x00020003 = false ∧ wellFormedWord 0x00010002 = false ∧
      wellFormedWord 0x00000101 = false := by decide

theorem test_hyp_CrcEngineLaws : (0x00 : Byte) ≠ 0xFF := by decide

theorem test_hyp_StepRunsTheDecodedCommand :
    (issuing [issue .gentbl]).script = .access (.write 0x000 4 0x00000001) :: [] ∧
      decode 0x00000001 = .ok .gentbl := ⟨rfl, by decide⟩

theorem test_hyp_StepOnIllegalWordRaises :
    (issuing [memWrite 0x000 4 0]).script = .access (.write 0x000 4 0) :: [] ∧
      decode 0 = .error .unknownOpcode := ⟨rfl, by decide⟩

theorem test_hyp_IdleStepKeepsAllState : State.reset.script = [] := rfl

/-- A race at the head of the stream, and one that is not its head yet. -/
theorem test_hyp_StepStopsOnlyOnARace :
    step (issuing [.simultaneous (.read 0x004 4) (.write 0x000 4 1)]) = .fault .dataRace ∧
      ∃ t, step (issuing [rd32 .status, .simultaneous (.read 0x004 4) (.write 0x000 4 1)]) = .next t :=
  ⟨rfl, _, rfl⟩

/-- Just below, between and above what may be read; the last offset of R62 and the first of log 9. -/
theorem test_hyp_RefusedAccessesChangeNothing_reads :
    ¬ readable Config.frameMax 0x000 4 ∧
      ¬ readable Config.frameMax 0x03C 4 ∧
      ¬ readable Config.frameMax 0x050 4 ∧
      ¬ readable Config.frameMax 0x005 4 ∧
      ¬ readable Config.frameMax 0x008 2 ∧
      ¬ readable Config.frameMax 0x1000 4 ∧
      ¬ readable Config.frameMax 0x0FFF 1 ∧
      ¬ readable Config.frameMax (0x2000 + Config.frameMax) 1 ∧
      ¬ readable Config.frameMax 0x3FFF 1 ∧
      ¬ readable Config.frameMax 0x4000 4 := by
  have h1 := Config.frameMax_ge
  have h2 := Config.frameMax_le
  unfold readable finAccess foutAccess
  refine ⟨?_, ?_, ?_, ?_, ?_, ?_, ?_, ?_, ?_, ?_⟩ <;> omega

/-- The read-only locations, and just outside what may be written. -/
theorem test_hyp_RefusedAccessesChangeNothing_writes :
    ¬ writable Config.frameMax 0x004 4 ∧
      ¬ writable Config.frameMax 0x014 4 ∧
      ¬ writable Config.frameMax 0x01C 4 ∧
      ¬ writable Config.frameMax 0x03C 4 ∧
      ¬ writable Config.frameMax 0x048 4 ∧
      ¬ writable Config.frameMax 0x04C 4 ∧
      ¬ writable Config.frameMax 0x000 1 ∧
      ¬ writable Config.frameMax 0x2000 1 ∧
      ¬ writable Config.frameMax (0x1000 + Config.frameMax) 1 ∧
      ¬ writable Config.frameMax 0x4000 4 := by
  have h1 := Config.frameMax_ge
  have h2 := Config.frameMax_le
  unfold writable finAccess
  refine ⟨?_, ?_, ?_, ?_, ?_, ?_, ?_, ?_, ?_, ?_⟩ <;> omega

theorem test_hyp_StatusReadsTheThreeFlags :
    (issuing [rd32 .status]).script = .access (.read 0x004 4) :: [] := rfl

/-- The first and the last of the listed registers. -/
theorem test_hyp_RegisterReadsReturnTheirRegisters :
    (issuing [rd32 .err]).script = .access (.read 0x008 4) :: [] ∧ errCode State.reset.err = 0 ∧
      (issuing [rd32 .v64OutHi]).script = .access (.read 0x04C 4) :: [] ∧ State.reset.v64OutHi = 0 :=
  ⟨rfl, rfl, rfl, rfl⟩

theorem test_hyp_RegisterWritesStoreAllBits :
    Reg.finLen ∈ [Reg.finLen, .cfgId, .cfgDataLen, .cfgMode, .cfgCtrOff, .cfgCrcOff, .cfgNibOff, .cfgMaxDelta,
      .v64InLo, .v64InHi] ∧
    (issuing [wr32 .finLen 8, rd32 .finLen]).script =
      .access (.write (regOffset .finLen) 4 8) :: .access (.read (regOffset .finLen) 4) :: [] :=
  ⟨by decide, rfl⟩

/-- The first and the last byte of a buffer. -/
theorem test_hyp_BufferBytesReadAndWrite :
    (issuing [wr8Fin 0 0xFF]).MemOk ∧ 0 < Config.frameMax ∧ Config.frameMax - 1 < Config.frameMax ∧
      (issuing [memWrite (0x1000 + 0) 1 0xFF]).script = .access (.write (0x1000 + 0) 1 0xFF) :: [] ∧
      (issuing [rd8Fin (Config.frameMax - 1)]).script = .access (.read (0x1000 + (Config.frameMax - 1)) 1) :: [] ∧
      (issuing [rd8Fout 0]).script = .access (.read (0x2000 + 0) 1) :: [] := by
  have h := Config.frameMax_ge
  refine ⟨?_, by omega, by omega, rfl, rfl, rfl⟩
  exact ⟨reset_memOk.1, reset_memOk.2, reset_memOk.3, reset_memOk.4⟩

theorem test_hyp_OnlyCmdWritesHaveSideEffects :
    (∃ t, step (issuing [rd32 .status]) = .next t) ∧ (∃ t, step (issuing [wr32 .finLen 8]) = .next t) ∧
      ¬ ((0x018 : Nat) = 0x000 ∧ (4 : Nat) = 4) := ⟨⟨_, rfl⟩, ⟨_, rfl⟩, by decide⟩

/-- The empty frame and one of eight bytes. -/
theorem test_hyp_LoadFrameStagesTheFrame :
    (issuing (loadFrame [] ++ [])).MemOk ∧ ([] : List Byte).length ≤ Config.frameMax ∧
      (issuing (loadFrame zeroFrame ++ [])).MemOk ∧ zeroFrame.length ≤ Config.frameMax := by
  have h := Config.frameMax_ge
  refine ⟨⟨reset_memOk.1, reset_memOk.2, reset_memOk.3, reset_memOk.4⟩, by simp,
    ⟨reset_memOk.1, reset_memOk.2, reset_memOk.3, reset_memOk.4⟩, ?_⟩
  change 8 ≤ Config.frameMax
  omega

theorem test_hyp_SetCfgStagesThenConfigures :
    (issuing (setCfg scenario ++ [])).script = setCfg scenario ++ [] := rfl

theorem test_hyp_ResetGivesTheStatedValues :
    ({ ready scenarioAct 3 with script := [.reset] } : State).script = .reset :: [] := rfl

theorem test_hyp_TblrdReadsOneEntry :
    (ready scenarioAct 0).tblValid = true ∧ State.reset.tblValid = false := ⟨rfl, rfl⟩

/-- The empty input, the longest that fits, and the shortest that does not. -/
theorem test_hyp_Crc8ChecksumsTheInput :
    (ready scenarioAct 0).tblValid = true ∧
      ({ ready scenarioAct 0 with finLen := 0 } : State).finLen.toNat ≤ Config.frameMax ∧
      ({ ready scenarioAct 0 with finLen := BitVec.ofNat 32 Config.frameMax } : State).finLen.toNat ≤ Config.frameMax ∧
      Config.frameMax < ({ ready scenarioAct 0 with finLen := BitVec.ofNat 32 (Config.frameMax + 1) } : State).finLen.toNat := by
  have h := Config.frameMax_le
  refine ⟨rfl, by simp, ?_, ?_⟩ <;> simp only [BitVec.toNat_ofNat] <;> omega

/-- V-C4: "1234" and "56789". -/
theorem test_hyp_ChainedCrc8EqualsOneRun :
    let s₁ := staged scenarioAct 0 [0x31, 0x32]
    let s₂ := staged scenarioAct 0 [0x33]
    let s := staged scenarioAct 0 [0x31, 0x32, 0x33]
    s₂.tbl = s₁.tbl ∧ s.tbl = s₁.tbl ∧ s₁.finLen.toNat ≤ Config.frameMax ∧ s₂.finLen.toNat ≤ Config.frameMax ∧
      s.finLen.toNat ≤ Config.frameMax ∧
      s.finFrame s.finLen.toNat = s₁.finFrame s₁.finLen.toNat ++ s₂.finFrame s₂.finLen.toNat ∧
      ∃ t₁, exec (.crc8 0xFF true) s₁ = .next t₁ ∧ (∃ t₂, exec (.crc8 t₁.dout false) s₂ = .next t₂) ∧
        ∃ t, exec (.crc8 0xFF true) s = .next t := by
  have h := Config.frameMax_ge
  intro s₁ s₂ s
  have h1 : s₁.finLen.toNat = 2 := rfl
  have h2 : s₂.finLen.toNat = 1 := rfl
  have h3 : s.finLen.toNat = 3 := rfl
  have run : ∀ (u : State) (a : Byte) (f : Bool), u.tblValid = true → u.finLen.toNat ≤ 8 →
      ∃ t, exec (.crc8 a f) u = .next t := fun u a f hv hl => by
    change ∃ t, execCrc8 a f u = .next t
    rw [execCrc8, if_neg (by simp [hv]), if_neg (by omega)]
    exact ⟨_, rfl⟩
  obtain ⟨t₁, ht⟩ := run s₁ 0xFF true rfl (by omega)
  refine ⟨rfl, rfl, by omega, by omega, by omega, ?_, t₁, ht, run s₂ _ _ rfl (by omega), run s _ _ rfl (by omega)⟩
  rw [h1, h2, h3]
  exact (staged_finFrame scenarioAct 0 [0x31, 0x32, 0x33]).trans
    (congrArg₂ (· ++ ·) (staged_finFrame scenarioAct 0 [0x31, 0x32]) (staged_finFrame scenarioAct 0 [0x33])).symm

/-- The scenario, the one-byte frame with the largest gap (V-G8, V-G26), and a frame that fills the buffer. -/
theorem test_hyp_ConfigConstructsTheEngine :
    StagedLegal Config.frameMax scenario ∧
      StagedLegal Config.frameMax ⟨0x123, 8, 0, 4, 0, 12, 14⟩ ∧
      StagedLegal Config.frameMax ⟨0xFFFFFFFF, BitVec.ofNat 32 (8 * Config.frameMax), 1, 8, 0, 15, 0⟩ ∧
      ¬ StagedLegal Config.frameMax { scenario with ctrOff := 61 } := by
  have h := Config.frameMax_ge
  have h' := Config.frameMax_le
  refine ⟨⟨by decide, by decide, ?_, by decide, by decide, by decide, by decide, by decide, by decide, by decide⟩,
    ⟨by decide, by decide, ?_, by decide, by decide, by decide, by decide, by decide, by decide, by decide⟩,
    ⟨?_, ?_, ?_, by decide, by decide, by decide, ?_, ?_, ?_, by decide⟩,
    fun hs => absurd hs.ctr_sh (by decide)⟩
  · change 8 ≤ Config.frameMax
    omega
  · change 1 ≤ Config.frameMax
    omega
  all_goals simp
  all_goals omega

/-- The five tests of 41_config.md R153, as the obligation writes them. -/
def badLen (c : Staging) : Prop :=
  c.dataLen.toNat % 8 ≠ 0 ∨ c.dataLen.toNat = 0 ∨ c.dataLen.toNat / 8 > Config.frameMax

def badRange (c : Staging) : Prop := c.mode.toNat > 1 ∨ c.maxDelta.toNat > 14

def badAlign (c : Staging) : Prop := c.crcOff.toNat % 8 ≠ 0

def badBounds (c : Staging) : Prop :=
  c.crcOff.toNat / 8 ≥ c.dataLen.toNat / 8 ∨ c.ctrOff.toNat / 8 ≥ c.dataLen.toNat / 8 ∨
    (c.mode.toNat = 1 ∧ c.nibOff.toNat / 8 ≥ c.dataLen.toNat / 8)

def badCtrBit (c : Staging) : Prop := c.ctrOff.toNat % 8 > 4

/-- One staged configuration for each clause of the validation, the length one byte above the buffer among them. -/
theorem test_hyp_ConfigReportsTheFirstFailure :
    badLen (stagedConfig { scenario with dataLen := 60 }).cfg ∧
      badLen (stagedConfig { scenario with dataLen := BitVec.ofNat 32 (8 * (Config.frameMax + 1)) }).cfg ∧
      (¬ badLen { scenario with maxDelta := 15 } ∧ badRange { scenario with maxDelta := 15 }) ∧
      (¬ badLen { scenario with crcOff := 4 } ∧ ¬ badRange { scenario with crcOff := 4 } ∧
        badAlign { scenario with crcOff := 4 }) ∧
      (¬ badLen { scenario with ctrOff := 69 } ∧ ¬ badRange { scenario with ctrOff := 69 } ∧
        ¬ badAlign { scenario with ctrOff := 69 } ∧ badBounds { scenario with ctrOff := 69 }) ∧
      (¬ badLen { scenario with ctrOff := 61 } ∧ ¬ badRange { scenario with ctrOff := 61 } ∧
        ¬ badAlign { scenario with ctrOff := 61 } ∧ ¬ badBounds { scenario with ctrOff := 61 } ∧
        badCtrBit { scenario with ctrOff := 61 }) ∧
      (¬ badLen { scenario with ctrOff := 60 } ∧ ¬ badRange { scenario with ctrOff := 60 } ∧
        ¬ badAlign { scenario with ctrOff := 60 } ∧ ¬ badBounds { scenario with ctrOff := 60 } ∧
        ¬ badCtrBit { scenario with ctrOff := 60 }) := by
  have h := Config.frameMax_ge
  have h' := Config.frameMax_le
  have hl : ∀ c : Staging, c.dataLen = 64 → ¬ badLen c := fun c hc => by
    unfold badLen
    rw [hc]
    simp
    omega
  refine ⟨.inl (by decide), .inr (.inr ?_), ⟨hl _ rfl, ?_⟩, ⟨hl _ rfl, ?_, ?_⟩, ⟨hl _ rfl, ?_, ?_, ?_⟩,
    ⟨hl _ rfl, ?_, ?_, ?_, ?_⟩, ⟨hl _ rfl, ?_, ?_, ?_, ?_⟩⟩
  · simp [stagedConfig]
    omega
  all_goals simp [badRange, badAlign, badBounds, badCtrBit, scenario]

/-- A `CONFIG` that changes `ACT`, and a reset whose draw differs from it. -/
theorem test_hyp_ActiveConfigurationIsImmutable :
    (∃ t, step { ready nibbleAct 0 with cfg := scenario, script := [issue .config] } = .next t ∧
      t.act ≠ (ready nibbleAct 0).act) ∧
    ∃ t, step { State.reset with act := { Config.actDraw 1 with id := (Config.actDraw 1).id + 1 }, script := [.reset] } =
        .next t ∧
      t.act ≠ { Config.actDraw 1 with id := (Config.actDraw 1).id + 1 } := by
  have h := Config.frameMax_ge
  refine ⟨?_, ⟨_, rfl, ?_⟩⟩
  · have hv : validate Config.frameMax scenario = none := by
      unfold validate
      simp only
      rw [if_neg, if_neg (by decide), if_neg (by decide), if_neg (by decide), if_neg (by decide)]
      have : ¬ Config.frameMax < scenario.dataLen.toNat / 8 := by
        change ¬ Config.frameMax < 8
        omega
      simp only [this, or_false]
      decide
    have hs : ∀ u : State, u.script = [issue .config] → step u = execConfig ((u.setScript []).answer .written) :=
      fun u hu => by
        rw [step_of_script hu]
        change State.command _ (encode .config) = _
        unfold State.command
        rw [show decode (encode .config) = .ok .config by decide]
        rfl
    have hx : ∀ u : State, u.cfg = scenario → execConfig u = .next (u.latch (latched scenario)).done :=
      fun u hu => by
        unfold execConfig
        rw [hu, hv]
    rw [hs _ rfl, hx _ rfl]
    exact ⟨_, rfl, by decide⟩
  · intro he
    have hid : (Config.actDraw 1).id = (Config.actDraw 1).id + 1 := congrArg ActConfig.id he
    revert hid
    generalize (Config.actDraw 1).id = x
    intro hid
    have := congrArg BitVec.toNat hid
    simp [BitVec.toNat_add] at this
    omega

/-- The largest shift, and the largest at which a whole nibble fits. -/
theorem test_hyp_NibblePrimitiveLaws : (7 : Nat) ≤ 7 ∧ (4 : Nat) ≤ 7 ∧ (4 : Nat) ≤ 4 := by decide

theorem test_hyp_FrameTransformProperties :
    ActLegal Config.frameMax scenarioAct ∧ zeroFrame.length = actN scenarioAct ∧
      ActLegal Config.frameMax nibbleAct ∧ zeroFrame.length = actN nibbleAct ∧
      (7 : Nat) ≠ actCrcByte nibbleAct ∧ 7 ≠ actCtrByte nibbleAct ∧ 7 ≠ actNibByte nibbleAct ∧
      actCtrByte scenarioAct ≠ actCrcByte scenarioAct ∧ (0 : Nibble) ≠ 15 :=
  ⟨scenario_legal, rfl, nibble_legal, rfl, by decide, by decide, by decide, by decide, by decide⟩

/-- Counter and identifier nibble in one byte, each nibble at its first and last bit, the first bit above and below a
field, and both modes. -/
theorem test_hyp_FrameTransformWritesTheFields :
    ActLegal Config.frameMax scenarioAct ∧ zeroFrame.length = actN scenarioAct ∧ scenarioAct.mode = .both ∧
      ActLegal Config.frameMax nibbleAct ∧ zeroFrame.length = actN nibbleAct ∧ nibbleAct.mode = .dataIdNibble ∧
      ActLegal Config.frameMax edgeAct ∧ zeroFrame.length = actN edgeAct ∧
      actCtrByte nibbleAct = 1 ∧ actNibByte nibbleAct = 1 ∧ 1 ≠ actCrcByte nibbleAct ∧
      actCtrSh nibbleAct = 0 ∧ actNibSh nibbleAct = 4 ∧ actNibByte edgeAct = 7 ∧ actNibSh edgeAct = 7 :=
  ⟨scenario_legal, rfl, rfl, nibble_legal, rfl, rfl, edge_legal, rfl, rfl, rfl, by decide, rfl, rfl, rfl, rfl⟩

/-- The nibble beside the counter in one byte, and at shift 7 of the last byte. -/
theorem test_hyp_IdentifierNibbleIsWritten :
    ∀ c ∈ [nibbleAct, edgeAct],
      ActLegal Config.frameMax c ∧ c.mode = .dataIdNibble ∧ actNibByte c ≠ actCrcByte c ∧
        (actNibByte c = actCtrByte c → nibMask (actNibSh c) &&& nibMask (actCtrSh c) = 0) ∧
        zeroFrame.length = actN c ∧ (ready c 15).tblValid = true ∧ (ready c 15).cfgValid = true ∧
        Memory.wf (ready c 15).foutDraw (ready c 15).fout ∧ (ready c 15).finLen.toNat = actN c ∧ c.dataLen = 64 := by
  intro c hc
  simp only [List.mem_cons, List.not_mem_nil, or_false] at hc
  rcases hc with rfl | rfl
  · exact ⟨nibble_legal, rfl, by decide, by decide, rfl, rfl, rfl, reset_memOk.fout_wf, rfl, rfl⟩
  · exact ⟨edge_legal, rfl, by decide, by decide, rfl, rfl, rfl, reset_memOk.fout_wf, rfl, rfl⟩

theorem test_hyp_BytesAndIntegerAreInverse : zeroFrame.length = 8 ∧ (7 : Nat) < 8 := by decide

/-- One state for each case of `PROTECT`, the lengths one below and one above the frame's among them. -/
theorem test_hyp_ProtectEmitsTheFrame :
    Memory.wf (ready scenarioAct 15).foutDraw (ready scenarioAct 15).fout ∧ (ready scenarioAct 15).tblValid = true ∧
      (ready scenarioAct 15).cfgValid = true ∧ (ready scenarioAct 15).finLen.toNat = actN (ready scenarioAct 15).act ∧
      Memory.wf State.reset.foutDraw State.reset.fout ∧ State.reset.tblValid = false ∧
      ({ State.reset with tblValid := true } : State).cfgValid = false ∧
      ({ ready scenarioAct 0 with finLen := 7 } : State).finLen.toNat ≠ actN scenarioAct ∧
      ({ ready scenarioAct 0 with finLen := 9 } : State).finLen.toNat ≠ actN scenarioAct :=
  ⟨reset_memOk.fout_wf, rfl, rfl, rfl, reset_memOk.fout_wf, rfl, rfl, by decide, by decide⟩

theorem test_hyp_ProtectHasPeriodSixteen :
    Memory.wf (ready scenarioAct 0).foutDraw (ready scenarioAct 0).fout ∧
      (ready scenarioAct 0).finLen.toNat = actN scenarioAct := ⟨reset_memOk.fout_wf, rfl⟩

/-- The first and the last byte of a frame as its CRC byte. -/
theorem test_hyp_ChecksumCoversIdentifierAndFrame :
    actCrcByte scenarioAct < zeroFrame.length ∧ actCrcByte layoutB < zeroFrame.length ∧
      actCrcByte layoutB + 1 = zeroFrame.length := by decide

theorem test_hyp_CodesReadAsNumbered :
    (issuing [rd32 .err]).script = .access (.read 0x008 4) :: [] ∧
      (issuing [rd32 .result]).script = .access (.read 0x010 4) :: [] := ⟨rfl, rfl⟩

/-- One state for each case of `PROTECT64`. -/
theorem test_hyp_Protect64EmitsTheInteger :
    Memory.wf (ready nibbleAct 15).foutDraw (ready nibbleAct 15).fout ∧ (ready nibbleAct 15).tblValid = true ∧
      (ready nibbleAct 15).cfgValid = true ∧ (ready nibbleAct 15).act.dataLen = 64 ∧
      State.reset.tblValid = false ∧ ({ State.reset with tblValid := true } : State).cfgValid = false ∧
      (ready { scenarioAct with dataLen := 72 } 0).act.dataLen ≠ 64 ∧
      (ready { scenarioAct with dataLen := 56 } 0).act.dataLen ≠ 64 :=
  ⟨reset_memOk.fout_wf, rfl, rfl, rfl, rfl, rfl, by decide, by decide⟩

/-- V-Q1. -/
theorem test_hyp_Protect64AgreesWithProtect :
    let s : State := { staged scenarioAct 0 [0x00, 0x77, 0x66, 0x55, 0x44, 0x33, 0x22, 0x11] with
      v64InLo := 0x55667700, v64InHi := 0x11223344 }
    Memory.wf s.foutDraw s.fout ∧ s.tblValid = true ∧ s.cfgValid = true ∧ s.act.dataLen = 64 ∧ s.finLen = 8 ∧
      s.finFrame 8 = bytesLe s.v64In :=
  ⟨reset_memOk.fout_wf, rfl, rfl, rfl, rfl, (staged_finFrame scenarioAct 0 _).trans (by decide)⟩

/-- A failing and a succeeding `PROTECT64`. -/
theorem test_hyp_Protect64IgnoresTheInputBuffer :
    (∃ t, exec .protect64 State.reset = .next t) ∧ ∃ t, exec .protect64 (ready scenarioAct 0) = .next t :=
  ⟨⟨_, rfl⟩, ⟨_, rfl⟩⟩

theorem test_hyp_CheckClassifiesTheFrame :
    State.reset.tblValid = false ∧ ({ State.reset with tblValid := true } : State).cfgValid = false ∧
      (ready scenarioAct 0).tblValid = true ∧ (ready scenarioAct 0).cfgValid = true ∧
      ({ ready scenarioAct 0 with finLen := 7 } : State).finLen.toNat ≠ actN scenarioAct ∧
      (ready scenarioAct 0).finLen.toNat = actN scenarioAct := by decide

/-- V-K11: the frame of identifier 0xABC at a receiver of 0x2BC, where the checksum computed directly over it matches and
the identifier nibble does not; and the same frame at its own receiver. -/
theorem test_hyp_IntegrityHasItsDirectForm :
    (ready nibbleAct 0).tblValid = true ∧ (ready nibbleAct 0).cfgValid = true ∧
      ActLegal Config.frameMax nibbleAct ∧ LayoutDisjoint nibbleAct ∧ (ready nibbleAct 0).finLen.toNat = actN nibbleAct ∧
      ActLegal Config.frameMax { nibbleAct with id := 0x2BC } ∧ LayoutDisjoint { nibbleAct with id := 0x2BC } ∧
      p11Crc crcTable { nibbleAct with id := 0x2BC } [0xBB, 0xA1, 0, 0, 0, 0, 0, 0] = 0xBB ∧
      nibGet (byteAt [0xBB, 0xA1, 0, 0, 0, 0, 0, 0] (actNibByte nibbleAct)) (actNibSh nibbleAct) = 0xA := by
  refine ⟨rfl, rfl, nibble_legal, nibble_disjoint, rfl, ?_, ⟨by decide, by decide, by decide⟩, by decide +kernel, by decide⟩
  exact ⟨nibble_legal.1, nibble_legal.2, nibble_legal.3, nibble_legal.4, nibble_legal.5, nibble_legal.6,
    nibble_legal.7, nibble_legal.8, nibble_legal.9⟩

/-- The lengths 0, one too many, and 0xFFFFFFFF. -/
theorem test_hyp_WrongLengthIsWrongInput :
    (ready scenarioAct 0).tblValid = true ∧ (ready scenarioAct 0).cfgValid = true ∧
      ({ ready scenarioAct 0 with finLen := 0 } : State).finLen.toNat ≠ actN scenarioAct ∧
      ({ ready scenarioAct 0 with finLen := 9 } : State).finLen.toNat ≠ actN scenarioAct ∧
      ({ ready scenarioAct 0 with finLen := 0xFFFFFFFF } : State).finLen.toNat ≠ actN scenarioAct := by decide

/-- For each row of the classification a received frame that meets its conditions: a wrong CRC, a wrong identifier
nibble, the gaps 4, 0, 1, 2 and 3 (`maxDelta` is 3), and `maxDelta` 0 and 1. -/
theorem test_hyp_CheckFollowsTheClassification :
    (ready scenarioAct 0).finLen.toNat = actN scenarioAct ∧
      crcOk scenarioAct (p11Frame crcTable scenarioAct [0xD9, 4, 0, 0, 0, 0, 0, 1] 4) [0xD9, 4, 0, 0, 0, 0, 0, 1] = false ∧
      idOk nibbleAct (p11Frame crcTable nibbleAct [0xBB, 0xB1, 0, 0, 0, 0, 0, 0] 1) [0xBB, 0xB1, 0, 0, 0, 0, 0, 0] = false ∧
      (∀ p ∈ [([0xD9, 4, 0, 0, 0, 0, 0, 0], 4), ([0xB0, 0, 0, 0, 0, 0, 0, 0], 0), ([0xED, 1, 0, 0, 0, 0, 0, 0], 1),
              ([0x0A, 2, 0, 0, 0, 0, 0, 0], 2), ([0x57, 3, 0, 0, 0, 0, 0, 0], 3)],
        crcOk scenarioAct (p11Frame crcTable scenarioAct p.1 (rxCounter scenarioAct p.1)) p.1 = true ∧
          ((rxCounter scenarioAct p.1).toNat + 16 - (ready scenarioAct 0).ctr.toNat) % 16 = p.2) ∧
      (ready { scenarioAct with maxDelta := 0 } 0).act.maxDelta = 0 ∧
      (ready { scenarioAct with maxDelta := 1 } 0).act.maxDelta = 1 := by decide +kernel

/-- A frame accepted as `OK`, one as `OK_SOME_LOST`, one repeated, one in error, one of a wrong length. -/
theorem test_hyp_CounterMovesOnlyOnAcceptance :
    (after (exec .check (listed scenarioAct 0 [0xED, 1, 0, 0, 0, 0, 0, 0]))).result = .ok ∧
      (after (exec .check (listed scenarioAct 0 [0x0A, 2, 0, 0, 0, 0, 0, 0]))).result = .okSomeLost ∧
      (after (exec .check (listed scenarioAct 0 [0xB0, 0, 0, 0, 0, 0, 0, 0]))).result = .repeated ∧
      (after (exec .check (listed scenarioAct 0 [0xB1, 0, 0, 0, 0, 0, 0, 0]))).result = .error ∧
      (after (exec .check (listed scenarioAct 0 [0xB0, 0, 0, 0, 0, 0, 0]))).result = .wrongInput := by decide +kernel

theorem test_hyp_RoundTripDependsOnTheCounterAlone :
    let f := p11Frame crcTable nibbleAct zeroFrame 1
    (staged nibbleAct 0 f).tblValid = true ∧ (staged nibbleAct 0 f).cfgValid = true ∧
      ActLegal Config.frameMax nibbleAct ∧ LayoutDisjoint nibbleAct ∧ zeroFrame.length = actN nibbleAct ∧
      (staged nibbleAct 0 f).finLen.toNat = actN nibbleAct ∧ (staged nibbleAct 0 f).finFrame (actN nibbleAct) = f := by
  intro f
  have hf : f.length = 8 := by simp [f, zeroFrame]
  have hs := staged_finFrame nibbleAct 0 f
  rw [hf] at hs
  refine ⟨rfl, rfl, nibble_legal, nibble_disjoint, rfl, ?_, hs⟩
  change (BitVec.ofNat 32 f.length).toNat = 8
  rw [hf]
  rfl

/-- The CRC byte itself, and the last byte. -/
theorem test_hyp_OneWrongByteIsAlwaysError :
    ∀ p ∈ [(0, 0xB1#8), (7, 0x80#8)],
      let f := (p11Frame crcTable scenarioAct zeroFrame 0).set p.1 p.2
      (staged scenarioAct 0 f).tbl = crcTable ∧ ActLegal Config.frameMax scenarioAct ∧ LayoutDisjoint scenarioAct ∧
        zeroFrame.length = actN scenarioAct ∧ (staged scenarioAct 0 f).finLen.toNat = actN scenarioAct ∧
        p.1 < actN scenarioAct ∧ p.2 ≠ byteAt (p11Frame crcTable scenarioAct zeroFrame 0) p.1 ∧
        (staged scenarioAct 0 f).finFrame (actN scenarioAct) = f := by
  intro p hp f
  have hf : f.length = 8 := by simp [f, zeroFrame]
  have hs := staged_finFrame scenarioAct 0 f
  rw [hf] at hs
  have hb : p.1 < actN scenarioAct ∧ p.2 ≠ byteAt (p11Frame crcTable scenarioAct zeroFrame 0) p.1 := by
    clear hf hs f
    revert p
    decide +kernel
  refine ⟨rfl, scenario_legal, scenario_disjoint, rfl, ?_, hb.1, hb.2, hs⟩
  change (BitVec.ofNat 32 f.length).toNat = 8
  rw [hf]
  rfl

theorem test_hyp_OwnOutputIsError :
    ∃ s t u : State, s.tblValid = true ∧ s.cfgValid = true ∧ ActLegal Config.frameMax s.act ∧
      actCtrByte s.act ≠ actCrcByte s.act ∧ s.finLen.toNat = actN s.act ∧ Memory.wf s.foutDraw s.fout ∧
      exec .protect s = .next t ∧ u = { t with fin := u.fin } ∧
      ∀ i, i < actN s.act → u.finByte i = t.foutByte i := by
  have hw : Memory.wf State.reset.finDraw [] := ⟨List.Pairwise.nil, by simp⟩
  refine ⟨ready scenarioAct 0, _, { (after (exec .protect (ready scenarioAct 0))) with
      fin := Memory.writeFrom State.reset.finDraw [] 0
        ((List.range 8).map (after (exec .protect (ready scenarioAct 0))).foutByte) },
    rfl, rfl, scenario_legal, by decide, rfl, reset_memOk.fout_wf, rfl, rfl, fun i hi => ?_⟩
  have hi : i < 8 := hi
  change Memory.read State.reset.finDraw (Memory.writeFrom State.reset.finDraw [] 0 _) i = _
  rw [Memory.read_writeFrom hw]
  simp [hi]
  rfl

/-- Accepted as `OK` and as `OK_SOME_LOST`. -/
theorem test_hyp_AcceptedFrameAgainIsRepeated :
    (listed scenarioAct 0 [0xED, 1, 0, 0, 0, 0, 0, 0]).tblValid = true ∧
      (listed scenarioAct 0 [0xED, 1, 0, 0, 0, 0, 0, 0]).cfgValid = true ∧
      (after (exec .check (listed scenarioAct 0 [0xED, 1, 0, 0, 0, 0, 0, 0]))).result = .ok ∧
      (after (exec .check (listed scenarioAct 0 [0x0A, 2, 0, 0, 0, 0, 0, 0]))).result = .okSomeLost := by decide +kernel

/-- A booted and configured engine with a frame loaded, about to protect it, meets the invariants. -/
theorem test_hyp_EveryStepKeepsTheInvariants :
    State.Inv { staged scenarioAct 5 zeroFrame with script := [issue .protect] } ∧
      ∃ t, step { staged scenarioAct 5 zeroFrame with script := [issue .protect] } = .next t := by
  have hm := staged_memOk scenarioAct 5 (bs := zeroFrame) (by decide)
  refine ⟨⟨fun _ => rfl, fun _ => scenario_legal, Nat.zero_le _, by decide, by decide,
    ⟨hm.1, hm.2, hm.3, hm.4⟩⟩, ⟨_, rfl⟩⟩

theorem test_hyp_FlagsFallOnlyByReset :
    (∃ t, step (issuing [issue .gentbl]) = .next t) ∧ ∀ rest, (issuing [issue .gentbl]).script ≠ .reset :: rest :=
  ⟨⟨_, rfl⟩, fun rest h => by cases h⟩

theorem test_hyp_EachCommandRaisesOnlyItsFailures :
    (∃ t, exec .protect (ready scenarioAct 0) = .next t) ∧ decode 0x00000100 = .error .unknownOpcode ∧
      ∃ t, State.reset.command 0x00000100 = .next t := ⟨⟨_, rfl⟩, by decide, ⟨_, rfl⟩⟩

theorem test_hyp_CommandsWriteOnlyTheirElements :
    (∃ t, exec .gentbl State.reset = .next t) ∧ (∃ t, exec (.tblrd 0) State.reset = .next t) ∧
      (∃ t, exec .protect64 (ready scenarioAct 0) = .next t) := ⟨⟨_, rfl⟩, ⟨_, rfl⟩, ⟨_, rfl⟩⟩

end Sys2Proof.Tests
end

section
/-! PROOFS. Commands are total (00_scope.md R12): every command word has a next state, and that state is the end of a
command that is `done` or `s.raise` of an error code (60_exceptions.md R232). -/

namespace Sys2Proof.Machine

/-! ### No command stops the machine -/

theorem execTblrd_total (idx : Byte) (s : State) : ∃ t, execTblrd idx s = .next t := by
  unfold execTblrd
  split <;> exact ⟨_, rfl⟩

theorem execCrc8_total (start : Byte) (first : Bool) (s : State) : ∃ t, execCrc8 start first s = .next t := by
  unfold execCrc8
  repeat' split
  all_goals exact ⟨_, rfl⟩

theorem execConfig_total (s : State) : ∃ t, execConfig s = .next t := by
  unfold execConfig
  split <;> exact ⟨_, rfl⟩

theorem execProtect_total (s : State) : ∃ t, execProtect s = .next t := by
  unfold execProtect
  repeat' split
  all_goals exact ⟨_, rfl⟩

theorem execProtect64_total (s : State) : ∃ t, execProtect64 s = .next t := by
  unfold execProtect64
  repeat' split
  all_goals exact ⟨_, rfl⟩

theorem execCheck_total (s : State) : ∃ t, execCheck s = .next t := by
  unfold execCheck
  repeat' split
  all_goals exact ⟨_, rfl⟩

theorem exec_total (i : Instr) (s : State) : ∃ t, exec i s = .next t := by
  cases i with
  | gentbl => exact ⟨_, rfl⟩
  | tblrd idx => exact execTblrd_total idx s
  | crc8 start first => exact execCrc8_total start first s
  | config => exact execConfig_total s
  | protect => exact execProtect_total s
  | protect64 => exact execProtect64_total s
  | check => exact execCheck_total s

theorem State.command_total (s : State) (w : Word) : ∃ t, s.command w = .next t := by
  unfold State.command
  split
  · exact exec_total _ s
  · exact ⟨_, rfl⟩

/-! ### The two ways a command ends -/

variable {s t : State}

/-- R232, for one command: a failure is `raise` on the state before. -/
theorem exec_done_or_raise {i : Instr} (h : exec i s = .next t) : t.commandDone ∨ ∃ e, t = s.raise e := by
  cases i with
  | gentbl =>
    obtain rfl := execGentbl_cases h
    exact .inl rfl
  | tblrd idx =>
    obtain ⟨-, rfl⟩ | ⟨-, rfl⟩ := execTblrd_cases h
    · exact .inr ⟨_, rfl⟩
    · exact .inl rfl
  | crc8 start first =>
    obtain ⟨-, rfl⟩ | ⟨-, -, rfl⟩ | ⟨-, -, rfl⟩ := execCrc8_cases first h
    · exact .inr ⟨_, rfl⟩
    · exact .inr ⟨_, rfl⟩
    · exact .inl rfl
  | config =>
    obtain ⟨e, -, rfl⟩ | ⟨-, rfl⟩ := execConfig_cases h
    · exact .inr ⟨e, rfl⟩
    · exact .inl rfl
  | protect =>
    obtain ⟨-, rfl⟩ | ⟨-, -, rfl⟩ | ⟨-, -, -, rfl⟩ | ⟨-, -, -, rfl⟩ := execProtect_cases h
    · exact .inr ⟨_, rfl⟩
    · exact .inr ⟨_, rfl⟩
    · exact .inr ⟨_, rfl⟩
    · exact .inl rfl
  | protect64 =>
    obtain ⟨-, rfl⟩ | ⟨-, -, rfl⟩ | ⟨-, -, -, rfl⟩ | ⟨-, -, -, rfl⟩ := execProtect64_cases h
    · exact .inr ⟨_, rfl⟩
    · exact .inr ⟨_, rfl⟩
    · exact .inr ⟨_, rfl⟩
    · exact .inl rfl
  | check =>
    obtain ⟨-, rfl⟩ | ⟨-, -, rfl⟩ | ⟨-, -, -, rfl⟩ | ⟨-, -, -, rfl⟩ := execCheck_cases h
    · exact .inr ⟨_, rfl⟩
    · exact .inr ⟨_, rfl⟩
    · exact .inl rfl
    · exact .inl rfl

/-- R232, for one command word, legal or not. -/
theorem State.command_done_or_raise {w : Word} (h : s.command w = .next t) :
    t.commandDone ∨ ∃ e, t = s.raise e := by
  obtain ⟨i, -, hexec⟩ | ⟨-, rfl⟩ := State.command_cases h
  · exact exec_done_or_raise hexec
  · exact .inr ⟨.illegalCommand, rfl⟩

/-- Settles O49: the command has a next state, which is `done` or what `raise` makes of the state before. -/
theorem everyCommandWordHasOneOutcome : Obligations.EveryCommandWordHasOneOutcome := by
  intro s w
  obtain ⟨t, ht⟩ := State.command_total s w
  refine ⟨t, ht, ?_⟩
  obtain hdone | ⟨e, rfl⟩ := State.command_done_or_raise ht
  · exact .inl hdone
  · exact .inr rfl

end Sys2Proof.Machine
end

section
/-! PROOFS. The written-by column of 10_state.md R20: what each command writes, in the form of the state it answers. -/

namespace Sys2Proof.Machine

variable {s t : State}

/-! ### What each command writes -/

theorem execGentbl_frame (h : execGentbl s = .next t) :
    t = { s with tbl := t.tbl, tblValid := t.tblValid, err := t.err } := by
  obtain rfl := execGentbl_cases h
  rfl

theorem execTblrd_frame {idx : Byte} (h : execTblrd idx s = .next t) :
    t = { s with dout := t.dout, err := t.err } := by
  obtain ⟨-, rfl⟩ | ⟨-, rfl⟩ := execTblrd_cases h <;> rfl

theorem execCrc8_frame {start : Byte} (first : Bool) (h : execCrc8 start first s = .next t) :
    t = { s with dout := t.dout, err := t.err } := by
  obtain ⟨-, rfl⟩ | ⟨-, -, rfl⟩ | ⟨-, -, rfl⟩ := execCrc8_cases first h <;> rfl

theorem execConfig_frame (h : execConfig s = .next t) :
    t = { s with act := t.act, cfgValid := t.cfgValid, ctr := t.ctr, err := t.err } := by
  obtain ⟨e, -, rfl⟩ | ⟨-, rfl⟩ := execConfig_cases h <;> rfl

theorem execProtect_frame (h : execProtect s = .next t) :
    t = { s with ctr := t.ctr, fout := t.fout, foutLen := t.foutLen, err := t.err } := by
  obtain ⟨-, rfl⟩ | ⟨-, -, rfl⟩ | ⟨-, -, -, rfl⟩ | ⟨-, -, -, rfl⟩ := execProtect_cases h <;> rfl

theorem execProtect64_frame (h : execProtect64 s = .next t) :
    t = { s with ctr := t.ctr, fout := t.fout, foutLen := t.foutLen, v64OutLo := t.v64OutLo,
                 v64OutHi := t.v64OutHi, err := t.err } := by
  obtain ⟨-, rfl⟩ | ⟨-, -, rfl⟩ | ⟨-, -, -, rfl⟩ | ⟨-, -, -, rfl⟩ := execProtect64_cases h <;> rfl

/-- The counter update writes `CTR` alone (43_check.md R207). -/
theorem State.resync_frame (s : State) (st : CheckStatus) (rc : Nibble) :
    s.resync st rc = { s with ctr := (s.resync st rc).ctr } := by
  unfold State.resync
  split <;> rfl

theorem execCheck_frame (h : execCheck s = .next t) :
    t = { s with ctr := t.ctr, result := t.result, resValid := t.resValid, err := t.err } := by
  obtain ⟨-, rfl⟩ | ⟨-, -, rfl⟩ | ⟨-, -, -, rfl⟩ | ⟨-, -, -, rfl⟩ := execCheck_cases h
  · rfl
  · rfl
  · rfl
  · rw [State.resync_frame]
    rfl

/-- Settles O51: each command's frame, read off component by component. -/
theorem commandsWriteOnlyTheirElements : Obligations.CommandsWriteOnlyTheirElements := by
  intro i s t h
  simp only [State.finByte, State.foutByte, State.finDraw, State.foutDraw]
  cases i with
  | gentbl => rw [execGentbl_frame h]; simp
  | tblrd idx => rw [execTblrd_frame h]; simp
  | crc8 start first => rw [execCrc8_frame first h]; simp
  | config => rw [execConfig_frame h]; simp
  | protect => rw [execProtect_frame h]; simp
  | protect64 => rw [execProtect64_frame h]; simp
  | check => rw [execCheck_frame h]; simp

end Sys2Proof.Machine
end

section
/-! PROOFS. `ERR` is written by every command and read by none (10_state.md R25): a code that `raise` left is in no
guard and no operand, and the `done` or the `raise` that ends the next command overwrites it. -/

namespace Sys2Proof.Machine

variable (s : State) (e : ErrCode)

/-- `ERR` passes through the counter update (43_check.md R207), whichever way it goes. -/
theorem State.resync_raise (st : CheckStatus) (rc : Nibble) :
    (s.raise e).resync st rc = (s.resync st rc).raise e := by
  unfold State.resync
  split <;> rfl

theorem execCheck_raise : execCheck (s.raise e) = execCheck s := by
  have hreport (st : CheckStatus) : (s.raise e).report st = (s.report st).raise e := rfl
  have hdone (u : State) : (u.raise e).done = u.done := rfl
  unfold execCheck
  simp only [hreport, State.resync_raise, hdone, State.raise_tbl, State.raise_act, State.raise_ctr,
    State.raise_finFrame]
  rfl

/-- R25, for one command. Both sides compute to the same guards and updates, but for the branch that `CHECK`'s counter
update adds. -/
theorem exec_raise (i : Instr) : exec i (s.raise e) = exec i s := by
  cases i with
  | gentbl => rfl
  | tblrd idx => rfl
  | crc8 start first => rfl
  | config => rfl
  | protect => rfl
  | protect64 => rfl
  | check => exact execCheck_raise s e

/-- R25, for one command word, legal or not. -/
theorem State.command_raise (w : Word) : (s.raise e).command w = s.command w := by
  unfold State.command
  split
  · exact exec_raise s e _
  · rfl

/-- Settles O52: replacing `ERR` is a `raise` before the command, which its own end overwrites. -/
theorem outcomeForgetsEarlierErrors : Obligations.OutcomeForgetsEarlierErrors := fun s w e =>
  State.command_raise s e w

end Sys2Proof.Machine
end

section
/-! PROOFS. The invariants of 10_state.md R36 (b) to (e): they hold after every reset and every step keeps them. -/

namespace Sys2Proof.Machine

/-! ### What `CONFIG` accepts is a legal configuration -/

theorem extractLsb'_zero_toNat_of_lt {w : Word} {k : Nat} (h : w.toNat < 2 ^ k) :
    (w.extractLsb' 0 k).toNat = w.toNat := by
  rw [BitVec.extractLsb'_toNat, Nat.shiftRight_zero, Nat.mod_eq_of_lt h]

/-- No failure of `validate()` means that none of its tests holds (41_config.md R153). -/
theorem stagedLegal_of_validate {frameMax : Nat} {c : Staging} (h : validate frameMax c = none) :
    StagedLegal frameMax c := by
  have hzero : c.dataLen = 0 ↔ c.dataLen.toNat = 0 := BitVec.toNat_eq
  have hone : c.mode = 1 ↔ c.mode.toNat = 1 := BitVec.toNat_eq
  dsimp only [validate] at h
  simp only [hzero, hone] at h
  split_ifs at h
  constructor <;> omega

/-- `CFG_MODE[0]` names `DATA_ID_NIBBLE` only for the value 1 (10_state.md R28), `CFG_MODE` being at most 1. -/
theorem mode_eq_one_of_latched {c : Staging} (hle : c.mode.toNat ≤ 1) (h : (latched c).mode = .dataIdNibble) :
    c.mode.toNat = 1 := by
  by_contra hne
  have hzero : c.mode = 0 := BitVec.eq_of_toNat_eq (by simp; omega)
  simp [latched, idModeOfBit, hzero] at h

/-- The latched copy loses no bit that the validation lets be set (41_config.md R152, R153). -/
theorem actLegal_latched {frameMax : Nat} (hmax : frameMax ≤ 4096) {c : Staging} (h : StagedLegal frameMax c) :
    ActLegal frameMax (latched c) := by
  obtain ⟨hbytes, hpos, hle, hmode, hdelta, halign, hcrc, hctr, hnib, hsh⟩ := h
  have hd : (latched c).dataLen.toNat = c.dataLen.toNat := extractLsb'_zero_toNat_of_lt (by omega)
  have hr : (latched c).crcOff.toNat = c.crcOff.toNat := extractLsb'_zero_toNat_of_lt (by omega)
  have ho : (latched c).ctrOff.toNat = c.ctrOff.toNat := extractLsb'_zero_toNat_of_lt (by omega)
  have hm : (latched c).maxDelta.toNat = c.maxDelta.toNat := extractLsb'_zero_toNat_of_lt (by omega)
  constructor <;> simp only [actN, actCrcByte, actCtrByte, actCtrSh, byteIndex, bitShift, hd, hr, ho, hm]
  case nib_in => exact fun hid => hnib (mode_eq_one_of_latched hmode hid)
  all_goals omega

/-! ### The elements the invariants speak of -/

variable {s t : State}

/-- The elements of the state that `State.Inv` speaks of. -/
def State.guarded (s : State) :=
  (s.tbl, s.tblValid, s.act, s.cfgValid, s.foutLen, s.result, s.resValid, s.fin, s.fout, s.resets)

/-- An update that leaves those elements alone keeps the invariants. -/
theorem State.Inv.of_guarded_eq (h : s.Inv) (heq : t.guarded = s.guarded) : t.Inv := by
  obtain ⟨tbl, tblValid, cfg, act, cfgValid, ctr, fin, finLen, fout, foutLen, v64InLo, v64InHi, v64OutLo, v64OutHi,
    dout, result, resValid, err, script, resp, resets⟩ := t
  cases heq
  exact ⟨h.table, h.config, h.foutLen, h.result_produced, h.result_valid,
    ⟨h.mem.fin_wf, h.mem.fout_wf, h.mem.fin_in, h.mem.fout_in⟩⟩

/-! ### The updates that write them -/

theorem afterReset_inv (k : Nat) (script : List HostEvent) : (State.afterReset k script).Inv where
  table := nofun
  config := nofun
  foutLen := Nat.zero_le _
  result_produced := nofun
  result_valid := nofun
  mem := ⟨⟨.nil, nofun⟩, ⟨.nil, nofun⟩, nofun, nofun⟩

theorem State.Inv.setTable (h : s.Inv) : (s.setTable crcTable).Inv where
  table _ := rfl
  config := h.config
  foutLen := h.foutLen
  result_produced := h.result_produced
  result_valid := h.result_valid
  mem := ⟨h.mem.fin_wf, h.mem.fout_wf, h.mem.fin_in, h.mem.fout_in⟩

theorem State.Inv.latch (h : s.Inv) {c : ActConfig} (hc : ActLegal Config.frameMax c) : (s.latch c).Inv where
  table := h.table
  config _ := hc
  foutLen := h.foutLen
  result_produced := h.result_produced
  result_valid := h.result_valid
  mem := ⟨h.mem.fin_wf, h.mem.fout_wf, h.mem.fin_in, h.mem.fout_in⟩

theorem State.Inv.report (h : s.Inv) {st : CheckStatus} (hseq : st ≠ .wrongSeq) (hnew : st ≠ .noNewData) :
    (s.report st).Inv where
  table := h.table
  config := h.config
  foutLen := h.foutLen
  result_produced := hseq
  result_valid _ := hnew
  mem := ⟨h.mem.fin_wf, h.mem.fout_wf, h.mem.fin_in, h.mem.fout_in⟩

/-- A frame that fits the buffer, with its length as `FOUT_LEN` (10_state.md R36 d). -/
theorem State.Inv.emitFrame (h : s.Inv) {out : List Byte} (hlen : out.length ≤ Config.frameMax) :
    (s.emitFrame out out.length).Inv where
  table := h.table
  config := h.config
  foutLen := by
    have hmax := Config.frameMax_le
    have hn : (BitVec.ofNat 32 out.length).toNat = out.length := by
      rw [BitVec.toNat_ofNat, Nat.mod_eq_of_lt (by omega)]
    simpa [hn] using hlen
  result_produced := h.result_produced
  result_valid := h.result_valid
  mem :=
    { fin_wf := h.mem.fin_wf
      fout_wf := Memory.writeFrom_wf h.mem.fout_wf 0 out
      fin_in := h.mem.fin_in
      fout_in := fun c hc => by
        obtain hold | hnew := Memory.mem_writeFrom hc
        · exact h.mem.fout_in c hold
        · omega }

/-- A byte written inside `FIN` (20_memory.md R64). -/
theorem State.Inv.putFin (h : s.Inv) {i : Nat} (hi : i < Config.frameMax) (b : Byte) : (s.putFin i b).Inv where
  table := h.table
  config := h.config
  foutLen := h.foutLen
  result_produced := h.result_produced
  result_valid := h.result_valid
  mem :=
    { fin_wf := Memory.write_wf h.mem.fin_wf i b
      fout_wf := h.mem.fout_wf
      fin_in := fun c hc => by
        obtain hold | ⟨rfl, -⟩ := Memory.mem_write hc
        · exact h.mem.fin_in c hold
        · exact hi
      fout_in := h.mem.fout_in }

/-! ### Commands -/

theorem execConfig_keeps_inv (h : s.Inv) (hx : execConfig s = .next t) : t.Inv := by
  obtain ⟨e, -, rfl⟩ | ⟨hv, rfl⟩ := execConfig_cases hx
  · exact h.of_guarded_eq rfl
  · have hlegal := actLegal_latched Config.frameMax_le (stagedLegal_of_validate hv)
    exact (h.latch hlegal).of_guarded_eq rfl

theorem execProtect_keeps_inv (h : s.Inv) (hx : execProtect s = .next t) : t.Inv := by
  obtain ⟨-, rfl⟩ | ⟨-, -, rfl⟩ | ⟨-, -, -, rfl⟩ | ⟨-, hcfg, -, rfl⟩ := execProtect_cases hx
  · exact h.of_guarded_eq rfl
  · exact h.of_guarded_eq rfl
  · exact h.of_guarded_eq rfl
  · have hlen : (p11Frame s.tbl s.act (s.finFrame (actN s.act)) s.ctr).length = actN s.act := by simp
    have hemit := h.emitFrame (hlen.trans_le (h.config hcfg).n_le)
    rw [hlen] at hemit
    exact hemit.of_guarded_eq rfl

theorem execProtect64_keeps_inv (h : s.Inv) (hx : execProtect64 s = .next t) : t.Inv := by
  obtain ⟨-, rfl⟩ | ⟨-, -, rfl⟩ | ⟨-, -, -, rfl⟩ | ⟨-, -, -, rfl⟩ := execProtect64_cases hx
  · exact h.of_guarded_eq rfl
  · exact h.of_guarded_eq rfl
  · exact h.of_guarded_eq rfl
  · have hlen : (p11Frame s.tbl s.act (bytesLe s.v64In) s.ctr).length = 8 := by simp [bytesLe]
    have hemit := h.emitFrame (hlen.trans_le Config.frameMax_ge)
    rw [hlen] at hemit
    exact hemit.of_guarded_eq rfl

/-- `CHECK` produces neither of the reserved statuses (43_check.md R206, 93_implementation_defined.md U4). -/
theorem frameStatus_produced (tbl : Vector Byte 256) (c : ActConfig) (ctr : Nibble) (rx : List Byte) :
    frameStatus tbl c ctr rx ≠ .wrongSeq ∧ frameStatus tbl c ctr rx ≠ .noNewData := by
  unfold frameStatus
  obtain ⟨h, -⟩ | ⟨-, -, -, ⟨h, -⟩ | ⟨h, -⟩ | ⟨h, -⟩⟩ := classify_cases _ _ _ _ <;>
    exact ⟨h ▸ nofun, h ▸ nofun⟩

theorem State.Inv.resync (h : s.Inv) (st : CheckStatus) (rc : Nibble) : (s.resync st rc).Inv := by
  refine h.of_guarded_eq ?_
  rw [State.resync_frame]
  rfl

theorem execCheck_keeps_inv (h : s.Inv) (hx : execCheck s = .next t) : t.Inv := by
  obtain ⟨-, rfl⟩ | ⟨-, -, rfl⟩ | ⟨-, -, -, rfl⟩ | ⟨-, -, -, rfl⟩ := execCheck_cases hx
  · exact h.of_guarded_eq rfl
  · exact h.of_guarded_eq rfl
  · exact (h.report (st := .wrongInput) nofun nofun).of_guarded_eq rfl
  · obtain ⟨hseq, hnew⟩ := frameStatus_produced s.tbl s.act s.ctr (s.finFrame (actN s.act))
    exact ((h.report hseq hnew).resync _ _).of_guarded_eq rfl

theorem exec_keeps_inv {i : Instr} (h : s.Inv) (hx : exec i s = .next t) : t.Inv := by
  cases i with
  | gentbl =>
    obtain rfl := execGentbl_cases hx
    exact h.setTable.of_guarded_eq rfl
  | tblrd idx =>
    refine h.of_guarded_eq ?_
    rw [execTblrd_frame hx]
    rfl
  | crc8 start first =>
    refine h.of_guarded_eq ?_
    rw [execCrc8_frame first hx]
    rfl
  | config => exact execConfig_keeps_inv h hx
  | protect => exact execProtect_keeps_inv h hx
  | protect64 => exact execProtect64_keeps_inv h hx
  | check => exact execCheck_keeps_inv h hx

theorem State.command_keeps_inv {w : Word} (h : s.Inv) (hx : s.command w = .next t) : t.Inv := by
  obtain ⟨i, -, hexec⟩ | ⟨-, rfl⟩ := State.command_cases hx
  · exact exec_keeps_inv h hexec
  · exact h.of_guarded_eq rfl

/-! ### Host accesses and steps -/

theorem State.portWrite_keeps_inv {addr n : Nat} {v : Word} (h : s.Inv) (hx : s.portWrite addr n v = .next t) :
    t.Inv := by
  obtain ⟨-, hcmd⟩ | ⟨r, u, -, hstore, rfl⟩ | ⟨i, hloc, rfl⟩ | rfl := State.portWrite_cases hx
  · have ha : (s.answer .written).Inv := h.of_guarded_eq rfl
    exact State.command_keeps_inv ha hcmd
  · refine h.of_guarded_eq ?_
    rw [State.storeReg_cases hstore]
    rfl
  · have hi : i < Config.frameMax := by
      obtain ⟨r, -, -, hl⟩ | ⟨j, -, hj, -, hl⟩ | ⟨j, -, -, -, hl⟩ := locate_cases hloc <;> cases hl
      exact hj
    exact (h.putFin hi _).of_guarded_eq rfl
  · exact h.of_guarded_eq rfl

/-- Settles O46: reset is reset number 0. -/
theorem resetMeetsTheInvariants : Obligations.ResetMeetsTheInvariants := afterReset_inv 0 []

/-- Settles O47, by what a step can do. -/
theorem everyStepKeepsTheInvariants : Obligations.EveryStepKeepsTheInvariants := by
  intro s t h hstep
  obtain ⟨-, rfl⟩ | ⟨_, _, rest, -, rfl⟩ | ⟨_, _, _, rest, -, hwrite⟩ | ⟨rest, -, rfl⟩ := step_cases hstep
  · exact h
  · exact h.of_guarded_eq rfl
  · have hr : (s.setScript rest).Inv := h.of_guarded_eq rfl
    exact State.portWrite_keeps_inv hr hwrite
  · exact afterReset_inv _ rest

end Sys2Proof.Machine
end

section
/-! PROOFS. The three flags of `STATUS` (10_state.md R24): only reset clears one (R36 g), and the host reads them in
bits 0 to 2. -/

namespace Sys2Proof.Machine

variable {s t : State}

/-! ### No command and no host write clears a flag -/

theorem exec_keeps_flags {i : Instr} (h : exec i s = .next t) : s.flagsKept t := by
  cases i with
  | gentbl =>
    obtain rfl := execGentbl_cases h
    exact ⟨fun _ => rfl, id, id⟩
  | tblrd idx =>
    rw [execTblrd_frame h]
    exact ⟨id, id, id⟩
  | crc8 start first =>
    rw [execCrc8_frame first h]
    exact ⟨id, id, id⟩
  | config =>
    obtain ⟨e, -, rfl⟩ | ⟨-, rfl⟩ := execConfig_cases h
    · exact ⟨id, id, id⟩
    · exact ⟨id, fun _ => rfl, id⟩
  | protect =>
    rw [execProtect_frame h]
    exact ⟨id, id, id⟩
  | protect64 =>
    rw [execProtect64_frame h]
    exact ⟨id, id, id⟩
  | check =>
    obtain ⟨-, rfl⟩ | ⟨-, -, rfl⟩ | ⟨-, -, -, rfl⟩ | ⟨-, -, -, rfl⟩ := execCheck_cases h
    · exact ⟨id, id, id⟩
    · exact ⟨id, id, id⟩
    · exact ⟨id, id, fun _ => rfl⟩
    · simp [State.flagsKept]

theorem State.command_keeps_flags {w : Word} (h : s.command w = .next t) : s.flagsKept t := by
  obtain ⟨i, -, hexec⟩ | ⟨-, rfl⟩ := State.command_cases h
  · exact exec_keeps_flags hexec
  · exact ⟨id, id, id⟩

theorem State.portWrite_keeps_flags {addr n : Nat} {v : Word} (h : s.portWrite addr n v = .next t) :
    s.flagsKept t := by
  obtain ⟨-, hcmd⟩ | ⟨r, u, -, hstore, rfl⟩ | ⟨i, -, rfl⟩ | rfl := State.portWrite_cases h
  · have hkept : (s.answer .written).flagsKept t := State.command_keeps_flags hcmd
    exact hkept
  · rw [State.storeReg_cases hstore]
    exact ⟨id, id, id⟩
  · exact ⟨id, id, id⟩
  · exact ⟨id, id, id⟩

/-- Settles O48: of the cases of a step, the reset alone can clear a flag. -/
theorem flagsFallOnlyByReset : Obligations.FlagsFallOnlyByReset := by
  intro s t hstep hreset
  obtain ⟨-, rfl⟩ | ⟨_, _, rest, -, rfl⟩ | ⟨_, _, _, rest, -, hwrite⟩ | ⟨rest, hs, -⟩ := step_cases hstep
  · exact ⟨id, id, id⟩
  · exact ⟨id, id, id⟩
  · have hkept : (s.setScript rest).flagsKept t := State.portWrite_keeps_flags hwrite
    exact hkept
  · exact absurd hs (hreset rest)

/-! ### `STATUS` as a word -/

theorem State.statusWord_getLsbD (s : State) (i : Nat) :
    s.statusWord.getLsbD i =
      (i == 0 && s.tblValid || i == 1 && s.cfgValid || i == 2 && s.resValid) := by
  rw [State.statusWord, BitVec.getLsbD_setWidth, BitVec.getLsbD_append, BitVec.getLsbD_append]
  match i with
  | 0 => simp
  | 1 => simp
  | 2 => simp
  | i + 3 => simp

/-- Settles O10: the port answers a read of 0x004 with `statusWord`. -/
theorem statusReadsTheThreeFlags : Obligations.StatusReadsTheThreeFlags := by
  intro s rest hs
  refine ⟨s.statusWord, step_of_script hs, ?_, ?_, ?_, fun i hi => ?_⟩ <;> rw [State.statusWord_getLsbD]
  · simp
  · simp
  · simp
  · simp; omega

end Sys2Proof.Machine
end

section
/-! PROOFS. The host port access by access (20_memory.md R60 to R66): what a read and a write can answer, which of them
are refused, and what a write leaves unchanged. -/

namespace Sys2Proof.Machine

variable {s t u : State} {rest : List HostEvent} {addr n : Nat} {v w : Word} {r : Reg} {i frameMax : Nat}

/-! ### What an access names -/

theorem locate_eq_reg (h : locate frameMax addr n = some (.reg r)) : n = 4 ∧ addr = regOffset r := by
  obtain ⟨r', hn, hr', hl⟩ | ⟨_, -, -, -, hl⟩ | ⟨_, -, -, -, hl⟩ := locate_cases h <;> cases hl
  exact ⟨hn, eq_regOffset_of_regAt hr'⟩

theorem locate_eq_fin (h : locate frameMax addr n = some (.fin i)) : n = 1 ∧ i < frameMax ∧ addr = 0x1000 + i := by
  obtain ⟨_, -, -, hl⟩ | ⟨_, hn, hi, haddr, hl⟩ | ⟨_, -, -, -, hl⟩ := locate_cases h <;> cases hl
  exact ⟨hn, hi, haddr⟩

theorem locate_eq_fout (h : locate frameMax addr n = some (.fout i)) :
    n = 1 ∧ i < frameMax ∧ addr = 0x2000 + i := by
  obtain ⟨_, -, -, hl⟩ | ⟨_, -, -, -, hl⟩ | ⟨_, hn, hi, haddr, hl⟩ := locate_cases h <;> cases hl
  exact ⟨hn, hi, haddr⟩

/-! ### Registers -/

@[simp] theorem State.answer_regValue (a : Response) : (s.answer a).regValue r = s.regValue r := by
  cases r <;> rfl

@[simp] theorem State.setScript_regValue (es : List HostEvent) : (s.setScript es).regValue r = s.regValue r := by
  cases r <;> rfl

@[simp] theorem State.putFin_regValue (b : Byte) : (s.putFin i b).regValue r = s.regValue r := by
  cases r <;> rfl

/-- R63: the register written takes all 32 bits, and every other register keeps its value. -/
theorem State.storeReg_regValue (h : s.storeReg v r = some u) (r' : Reg) :
    u.regValue r' = if r' = r then some v else s.regValue r' := by
  cases r <;> cases h <;> cases r' <;> rfl

theorem readable_of_regValue (h : s.regValue r = some w) : readable frameMax (regOffset r) 4 := by
  cases r with
  | cmd => cases h
  | _ => exact .inl (by decide)

theorem writable_of_storeReg (h : s.storeReg v r = some u) : writable frameMax (regOffset r) 4 := by
  cases r <;> cases h <;> exact .inl (by decide)

/-! ### Reads -/

theorem State.portRead_reg (h : s.regValue r = some w) : s.portRead (regOffset r) 4 = .word w := by
  simp only [State.portRead, locate_regOffset, h]

theorem State.portRead_fin (h : i < Config.frameMax) : s.portRead (0x1000 + i) 1 = .byte (s.finByte i) := by
  simp only [State.portRead, locate_fin h]

theorem State.portRead_fout (h : i < Config.frameMax) : s.portRead (0x2000 + i) 1 = .byte (s.foutByte i) := by
  simp only [State.portRead, locate_fout Config.frameMax_le h]

/-- What a host read can name, refused otherwise. -/
theorem State.portRead_cases (s : State) (addr n : Nat) :
    (∃ r w, n = 4 ∧ addr = regOffset r ∧ s.regValue r = some w) ∨
      (n = 1 ∧ ∃ i < Config.frameMax, addr = 0x1000 + i ∨ addr = 0x2000 + i) ∨
      s.portRead addr n = .busError := by
  unfold State.portRead
  split
  · obtain ⟨hn, haddr⟩ := locate_eq_reg ‹_›
    split
    · exact .inl ⟨_, _, hn, haddr, ‹_›⟩
    · exact .inr (.inr rfl)
  · obtain ⟨hn, hi, haddr⟩ := locate_eq_fin ‹_›
    exact .inr (.inl ⟨hn, _, hi, .inl haddr⟩)
  · obtain ⟨hn, hi, haddr⟩ := locate_eq_fout ‹_›
    exact .inr (.inl ⟨hn, _, hi, .inr haddr⟩)
  · exact .inr (.inr rfl)

theorem State.portRead_refused (h : ¬ readable Config.frameMax addr n) : s.portRead addr n = .busError := by
  obtain ⟨r, w, rfl, rfl, hr⟩ | ⟨rfl, i, hi, rfl | rfl⟩ | hbus := s.portRead_cases addr n
  · exact absurd (readable_of_regValue hr) h
  · exact absurd (.inr (.inl ⟨rfl, by omega, by omega⟩)) h
  · exact absurd (.inr (.inr ⟨rfl, by omega, by omega⟩)) h
  · exact hbus

/-- A read answers, and is taken off the host's stream; it changes nothing else (R65). -/
theorem step_of_read (h : s.script = .access (.read addr n) :: rest) :
    step s = .next { s with script := rest, resp := s.portRead addr n } :=
  step_of_script h

/-! ### Writes -/

theorem State.portWrite_fin (h : i < Config.frameMax) :
    s.portWrite (0x1000 + i) 1 v = .next ((s.putFin i (v.extractLsb' 0 8)).answer .written) := by
  unfold State.portWrite
  rw [locate_fin h]

theorem State.portWrite_total (s : State) (addr n : Nat) (v : Word) : ∃ t, s.portWrite addr n v = .next t := by
  unfold State.portWrite
  split
  · exact State.command_total _ v
  · split <;> exact ⟨_, rfl⟩
  · exact ⟨_, rfl⟩
  · exact ⟨_, rfl⟩
  · exact ⟨_, rfl⟩

theorem State.portWrite_refused (h : ¬ writable Config.frameMax addr n) :
    s.portWrite addr n v = .next (s.answer .busError) := by
  obtain ⟨t, ht⟩ := s.portWrite_total addr n v
  obtain ⟨hloc, -⟩ | ⟨r, u, hloc, hstore, -⟩ | ⟨i, hloc, -⟩ | rfl := State.portWrite_cases ht
  · obtain ⟨rfl, rfl⟩ := locate_eq_reg hloc
    exact absurd (.inl ⟨rfl, .inl rfl⟩) h
  · obtain ⟨rfl, rfl⟩ := locate_eq_reg hloc
    exact absurd (writable_of_storeReg hstore) h
  · obtain ⟨rfl, hi, rfl⟩ := locate_eq_fin hloc
    exact absurd (.inr ⟨rfl, by omega, by omega⟩) h
  · exact ht

theorem step_of_write (h : s.script = .access (.write addr n v) :: rest) :
    step s = (s.setScript rest).portWrite addr n v :=
  step_of_script h

/-! ### Where a step stops -/

theorem step_of_race {a b : Access} (h : s.script = .simultaneous a b :: rest) : step s = .fault .dataRace :=
  step_of_script h

theorem step_total (h : ∀ a b rest, s.script ≠ .simultaneous a b :: rest) : ∃ t, step s = .next t := by
  match hs : s.script with
  | [] => exact ⟨s, by rw [step, State.hostStep, hs]⟩
  | .access (.read addr n) :: rest => exact ⟨_, step_of_read hs⟩
  | .access (.write addr n v) :: rest =>
    rw [step_of_write hs]
    exact State.portWrite_total _ addr n v
  | .reset :: rest => exact ⟨_, step_of_script hs⟩
  | .simultaneous a b :: rest => exact absurd hs (h a b rest)

/-- Settles O8: a race faults, everything else has a next state, and the two outcomes exclude each other. -/
theorem stepStopsOnlyOnARace : Obligations.StepStopsOnlyOnARace := by
  intro s
  by_cases hrace : ∃ a b rest, s.script = .simultaneous a b :: rest
  · obtain ⟨a, b, rest, hs⟩ := hrace
    simp [step_of_race hs, hs]
  · have hfree : ∀ a b rest, s.script ≠ .simultaneous a b :: rest := fun a b rest hs => hrace ⟨a, b, rest, hs⟩
    obtain ⟨t, ht⟩ := step_total hfree
    simp [ht, hfree]

/-! ### Refused accesses -/

/-- Settles O9: what the map does not list, the port answers with `BusError`. -/
theorem refusedAccessesChangeNothing : Obligations.RefusedAccessesChangeNothing := by
  constructor
  · intro s addr n rest hs hread
    rw [step_of_read hs, State.portRead_refused hread]
  · intro s addr n v rest hs hwrite
    rw [step_of_write hs, State.portWrite_refused hwrite]
    rfl

/-! ### Reading back what was written -/

/-- Settles O13: the write is the register's `storeReg`, whose value the read after it returns. -/
theorem registerWritesStoreAllBits : Obligations.RegisterWritesStoreAllBits := by
  intro s r v rest hr hs
  obtain ⟨u, hu⟩ : ∃ u, (s.setScript (.access (.read (regOffset r) 4) :: rest)).storeReg v r = some u := by
    fin_cases hr <;> exact ⟨_, rfl⟩
  have hframe := State.storeReg_cases hu
  have hval (r' : Reg) : (u.answer .written).regValue r' = if r' = r then some v else s.regValue r' := by
    rw [State.answer_regValue, State.storeReg_regValue hu, State.setScript_regValue]
  have hscript : (u.answer .written).script = .access (.read (regOffset r) 4) :: rest := by
    rw [hframe]
    rfl
  refine ⟨u.answer .written, ?_, rfl, ?_, fun r' hne => ?_, ?_⟩
  · rw [step_of_write hs, State.portWrite_reg hu]
  · have hread : (u.answer .written).regValue r = some v := by rw [hval, if_pos rfl]
    rw [step_of_read hscript, State.portRead_reg hread]
  · rw [hval, if_neg hne]
  · rw [hframe]
    rfl

/-- Settles O14: the byte memories' read after write, on `FIN`. -/
theorem bufferBytesReadAndWrite : Obligations.BufferBytesReadAndWrite := by
  intro s i rest hmem hi
  refine ⟨fun v hs => ?_, fun hs => ?_, fun hs => ?_⟩
  · have hbyte (k : Nat) : (s.putFin i (v.extractLsb' 0 8)).finByte k =
        if k = i then v.extractLsb' 0 8 else s.finByte k :=
      State.putFin_finByte hmem.fin_wf i _ k
    refine ⟨((s.setScript rest).putFin i (v.extractLsb' 0 8)).answer .written, ?_, ?_, fun k hk => ?_,
      fun k => rfl, rfl⟩
    · rw [step_of_write hs, State.portWrite_fin hi]
    · exact (hbyte i).trans (if_pos rfl)
    · exact (hbyte k).trans (if_neg hk)
  · rw [step_of_read hs, State.portRead_fin hi]
  · rw [step_of_read hs, State.portRead_fout hi]

/-- Settles O11: each listed offset is that of a register with the listed value. -/
theorem registerReadsReturnTheirRegisters : Obligations.RegisterReadsReturnTheirRegisters := by
  intro s addr w rest hs hmem
  have hlisted : (regAt addr).bind s.regValue = some w := by
    fin_cases hmem <;> rfl
  obtain ⟨r, haddr, hr⟩ := Option.bind_eq_some_iff.mp hlisted
  obtain rfl := eq_regOffset_of_regAt haddr
  rw [step_of_read hs, State.portRead_reg hr]

/-! ### Side effects -/

/-- What a write other than that of a command changes (R65): the location it names. -/
theorem State.portWrite_frame (hcmd : ¬ (addr = 0x000 ∧ n = 4)) (h : s.portWrite addr n v = .next t) :
    t = { s with resp := t.resp, fin := t.fin, finLen := t.finLen, cfg := t.cfg, v64InLo := t.v64InLo,
                 v64InHi := t.v64InHi } ∧
      (∀ r, ¬ (n = 4 ∧ addr = regOffset r) → t.regValue r = s.regValue r) ∧
      (∀ i, ¬ (n = 1 ∧ addr = 0x1000 + i) → t.finByte i = s.finByte i) := by
  obtain ⟨hloc, -⟩ | ⟨r, u, hloc, hstore, rfl⟩ | ⟨i, hloc, rfl⟩ | rfl := State.portWrite_cases h
  · obtain ⟨rfl, rfl⟩ := locate_eq_reg hloc
    exact absurd ⟨rfl, rfl⟩ hcmd
  · obtain ⟨rfl, rfl⟩ := locate_eq_reg hloc
    have hframe := State.storeReg_cases hstore
    refine ⟨?_, fun r' hr' => ?_, fun k _ => ?_⟩
    · rw [hframe]
      rfl
    · have hne : r' ≠ r := by
        rintro rfl
        exact hr' ⟨rfl, rfl⟩
      rw [State.answer_regValue, State.storeReg_regValue hstore, if_neg hne]
    · rw [hframe]
      rfl
  · obtain ⟨rfl, -, rfl⟩ := locate_eq_fin hloc
    refine ⟨rfl, fun r' _ => by simp, fun k hk => ?_⟩
    have hne : k ≠ i := by
      rintro rfl
      exact hk ⟨rfl, rfl⟩
    exact Memory.read_write_other hne _
  · exact ⟨rfl, fun r _ => by simp, fun k _ => rfl⟩

/-- Settles O15: a read only answers, and a write has the frame of `portWrite`; `FOUT` is in neither's reach. -/
theorem onlyCmdWritesHaveSideEffects : Obligations.OnlyCmdWritesHaveSideEffects := by
  constructor
  · intro s t addr n rest hs hstep
    rw [step_of_read hs] at hstep
    cases hstep
    rfl
  · intro s t addr n v rest hs hcmd hstep
    rw [step_of_write hs] at hstep
    obtain ⟨hframe, hregs, hbytes⟩ := State.portWrite_frame hcmd hstep
    refine ⟨hframe, fun r hr => ?_, hbytes, fun k => ?_⟩
    · rw [hregs r hr, State.setScript_regValue]
    · rw [hframe]
      rfl

end Sys2Proof.Machine
end

section
/-! PROOFS. The command words field by field (30_encoding.md R91 to R95): a word is its four fields, each command has
one value of each, and so the decoder, the encoder and the opcode map agree. -/

namespace Sys2Proof

variable {w v : Word}

/-! ### A word is its four fields -/

theorem getLsbD_eq_of_fields (w : Word) {i : Nat} (hi : i < 32) :
    w.getLsbD i =
      if i < 8 then (fieldOpc w).getLsbD i
      else if i < 16 then (fieldA w).getLsbD (i - 8)
      else if i = 16 then fieldF w
      else (fieldRsv w).getLsbD (i - 17) := by
  simp only [fieldOpc, fieldA, fieldF, fieldRsv, BitVec.getLsbD_extractLsb']
  split_ifs with h8 h16 hF
  · simp [h8]
  · simp [show i - 8 < 8 by omega, show 8 + (i - 8) = i by omega]
  · rw [hF]
  · simp [show i - 17 < 15 by omega, show 17 + (i - 17) = i by omega]

/-- R91: the four fields cover the word. -/
theorem word_eq_iff_fields : w = v ↔
    fieldRsv w = fieldRsv v ∧ fieldF w = fieldF v ∧ fieldA w = fieldA v ∧ fieldOpc w = fieldOpc v := by
  constructor
  · rintro rfl
    exact ⟨rfl, rfl, rfl, rfl⟩
  · rintro ⟨hrsv, hf, ha, hopc⟩
    refine BitVec.eq_of_getLsbD_eq fun i hi => ?_
    rw [getLsbD_eq_of_fields w hi, getLsbD_eq_of_fields v hi, hrsv, hf, ha, hopc]

theorem fieldRsv_and : fieldRsv (w &&& v) = fieldRsv w &&& fieldRsv v := BitVec.extractLsb'_and

theorem fieldF_and : fieldF (w &&& v) = (fieldF w && fieldF v) := BitVec.getLsbD_and

theorem fieldA_and : fieldA (w &&& v) = fieldA w &&& fieldA v := BitVec.extractLsb'_and

theorem fieldOpc_and : fieldOpc (w &&& v) = fieldOpc w &&& fieldOpc v := BitVec.extractLsb'_and

/-! ### The fields of each command's word -/

/-- `OPC` of the command's row (R93). -/
def Instr.opcode : Instr → Byte
  | .gentbl => 0x01
  | .tblrd _ => 0x02
  | .crc8 _ _ => 0x03
  | .config => 0x10
  | .protect => 0x11
  | .protect64 => 0x12
  | .check => 0x13

/-- The operand the command carries in `A`, 0 where it carries none (R92). -/
def Instr.byteOperand : Instr → Byte
  | .tblrd idx => idx
  | .crc8 start _ => start
  | _ => 0

/-- The operand the command carries in `F`, 0 where it carries none (R92). -/
def Instr.flagOperand : Instr → Bool
  | .crc8 _ first => first
  | _ => false

theorem encode_fields (i : Instr) :
    fieldRsv (encode i) = 0 ∧ fieldF (encode i) = i.flagOperand ∧ fieldA (encode i) = i.byteOperand ∧
      fieldOpc (encode i) = i.opcode := by
  cases i with
  | tblrd idx => revert idx; decide
  | crc8 start first => revert start first; decide
  | _ => decide

/-- A command without operands has its opcode alone (R93). -/
theorem plainOpcode_eq_some {opc : Byte} {i : Instr} (h : plainOpcode opc = some i) :
    i.flagOperand = false ∧ i.byteOperand = 0 ∧ i.opcode = opc := by
  unfold plainOpcode at h
  split_ifs at h with h1 h10 h11 h12 h13 <;> cases h
  · exact ⟨rfl, rfl, h1.symm⟩
  · exact ⟨rfl, rfl, h10.symm⟩
  · exact ⟨rfl, rfl, h11.symm⟩
  · exact ⟨rfl, rfl, h12.symm⟩
  · exact ⟨rfl, rfl, h13.symm⟩

/-- The decoder, by the fields of the word. -/
theorem decode_eq_ok_iff_fields {i : Instr} : decode w = .ok i ↔
    fieldRsv w = 0 ∧ fieldF w = i.flagOperand ∧ fieldA w = i.byteOperand ∧ fieldOpc w = i.opcode := by
  constructor
  · intro h
    unfold decode at h
    split at h
    · cases h
    · rename_i hrsv
      rw [not_not] at hrsv
      split at h
      · cases h
        exact ⟨hrsv, rfl, rfl, ‹_›⟩
      · split at h
        · split_ifs at h with hf
          cases h
          exact ⟨hrsv, Bool.eq_false_iff.mpr hf, rfl, ‹_›⟩
        · split at h
          · cases h
          · rename_i hplain
            split_ifs at h with hf ha
            cases h
            obtain ⟨hif, hia, hiopc⟩ := plainOpcode_eq_some hplain
            exact ⟨hrsv, hif ▸ Bool.eq_false_iff.mpr hf, hia ▸ not_not.mp ha, hiopc.symm⟩
  · rintro ⟨hrsv, hf, ha, hopc⟩
    unfold decode
    rw [hrsv, hf, ha, hopc]
    cases i <;> rfl

/-- R95: the words that decode to a command are its encoding. -/
theorem decode_eq_ok_iff {i : Instr} : decode w = .ok i ↔ w = encode i := by
  obtain ⟨hrsv, hf, ha, hopc⟩ := encode_fields i
  rw [decode_eq_ok_iff_fields, word_eq_iff_fields, hrsv, hf, ha, hopc]

/-- Settles O1: both sides say the same of the four fields. -/
theorem decodeAndEncodeAgree : Obligations.DecodeAndEncodeAgree := by
  refine ⟨fun w i => decode_eq_ok_iff, rfl, fun idx => rfl, fun start first => ?_, rfl, rfl, rfl, rfl⟩
  cases first <;> rfl

/-- Settles O4: each word is the encoding of its command, or has a field that its opcode does not. -/
theorem sampleWordsDecode : Obligations.SampleWordsDecode := by
  unfold Obligations.SampleWordsDecode
  decide

/-! ### The opcode map -/

/-- A row without operands fixes the whole word. -/
theorem and_fullMask (w : Word) : w &&& 0xFFFFFFFF = w := BitVec.and_allOnes

/-- The row of `TBLRD` leaves `A` open. -/
theorem and_tblrdMask_eq_iff :
    w &&& 0xFFFF00FF = 0x00000002 ↔ fieldRsv w = 0 ∧ fieldF w = false ∧ fieldOpc w = 0x02 := by
  have hrsv : fieldRsv w &&& fieldRsv 0xFFFF00FF = fieldRsv w := BitVec.and_allOnes
  have hf : (fieldF w && fieldF 0xFFFF00FF) = fieldF w := Bool.and_true _
  have ha : fieldA w &&& fieldA 0xFFFF00FF = 0 := BitVec.and_zero
  have hopc : fieldOpc w &&& fieldOpc 0xFFFF00FF = fieldOpc w := BitVec.and_allOnes
  rw [word_eq_iff_fields, fieldRsv_and, fieldF_and, fieldA_and, fieldOpc_and, hrsv, hf, ha, hopc]
  exact and_congr_right' (and_congr_right' (and_iff_right rfl))

/-- The row of `CRC8` leaves `A` and `F` open. -/
theorem and_crc8Mask_eq_iff : w &&& 0xFFFE00FF = 0x00000003 ↔ fieldRsv w = 0 ∧ fieldOpc w = 0x03 := by
  have hrsv : fieldRsv w &&& fieldRsv 0xFFFE00FF = fieldRsv w := BitVec.and_allOnes
  have hf : (fieldF w && fieldF 0xFFFE00FF) = false := Bool.and_false _
  have ha : fieldA w &&& fieldA 0xFFFE00FF = 0 := BitVec.and_zero
  have hopc : fieldOpc w &&& fieldOpc 0xFFFE00FF = fieldOpc w := BitVec.and_allOnes
  rw [word_eq_iff_fields, fieldRsv_and, fieldF_and, fieldA_and, fieldOpc_and, hrsv, hf, ha, hopc]
  exact and_congr_right' ((and_iff_right rfl).trans (and_iff_right rfl))

/-- Every row fixes the whole of `OPC`. -/
theorem fieldOpc_of_selects {r : OpcodeRow} (hr : r ∈ opcodeMap) (h : r.selects w = true) :
    fieldOpc w = fieldOpc r.pattern := by
  have hmask : ∀ r ∈ opcodeMap, fieldOpc r.mask = BitVec.allOnes 8 := by decide
  have hw : w &&& r.mask = r.pattern := beq_iff_eq.mp h
  rw [← hw, fieldOpc_and, hmask r hr, BitVec.and_allOnes]

/-- No two rows have the same opcode. -/
theorem eq_of_fieldOpc_pattern :
    ∀ r ∈ opcodeMap, ∀ r' ∈ opcodeMap, fieldOpc r.pattern = fieldOpc r'.pattern → r = r' := by decide

/-- Settles O2: a mask keeps the fields that its command fixes, and `OPC` tells the rows apart. -/
theorem rowsSelectTheirCommands : Obligations.RowsSelectTheirCommands := by
  intro w
  have hplain (i : Instr) : w &&& 0xFFFFFFFF = encode i ↔ decode w = .ok i := by
    rw [and_fullMask, decode_eq_ok_iff]
  refine ⟨hplain .gentbl, ?_, ?_, hplain .config, hplain .protect, hplain .protect64, hplain .check,
    fun r hr r' hr' h h' => eq_of_fieldOpc_pattern r hr r' hr' ?_⟩
  · rw [and_tblrdMask_eq_iff]
    simp [decode_eq_ok_iff_fields, Instr.flagOperand, Instr.byteOperand, Instr.opcode]
  · rw [and_crc8Mask_eq_iff]
    simp [decode_eq_ok_iff_fields, Instr.flagOperand, Instr.byteOperand, Instr.opcode]
  · rw [← fieldOpc_of_selects hr h, fieldOpc_of_selects hr' h']

/-! ### Illegal words -/

theorem wellFormedWord_encode (i : Instr) : wellFormedWord (encode i) = true := by
  cases i with
  | gentbl => exact Laws.LegalEncoding.gentbl
  | tblrd idx => exact Laws.LegalEncoding.tblrd idx
  | crc8 start first => exact Laws.LegalEncoding.crc8 start first
  | config => exact Laws.LegalEncoding.config
  | protect => exact Laws.LegalEncoding.protect
  | protect64 => exact Laws.LegalEncoding.protect64
  | check => exact Laws.LegalEncoding.check

/-- A word matches a row of the map exactly when it decodes to a command (R93, R95). -/
theorem wellFormedWord_iff_decode : wellFormedWord w = true ↔ ∃ i, decode w = .ok i := by
  constructor
  · intro h
    obtain ⟨hgentbl, htblrd, hcrc8, hconfig, hprotect, hprotect64, hcheck, -⟩ := rowsSelectTheirCommands w
    obtain ⟨r, hr, hsel⟩ := List.any_eq_true.mp h
    have hw : w &&& r.mask = r.pattern := beq_iff_eq.mp hsel
    fin_cases hr
    · exact ⟨_, hgentbl.mp hw⟩
    · obtain ⟨idx, hdec⟩ := htblrd.mp hw
      exact ⟨_, hdec⟩
    · obtain ⟨start, first, hdec⟩ := hcrc8.mp hw
      exact ⟨_, hdec⟩
    · exact ⟨_, hconfig.mp hw⟩
    · exact ⟨_, hprotect.mp hw⟩
    · exact ⟨_, hprotect64.mp hw⟩
    · exact ⟨_, hcheck.mp hw⟩
  · rintro ⟨i, hdec⟩
    rw [decode_eq_ok_iff.mp hdec]
    exact wellFormedWord_encode i

/-- The fields of a legal word: none of the four cases of R94 applies. -/
theorem exists_decode_iff_fields : (∃ i, decode w = .ok i) ↔
    fieldOpc w ∈ [0x01#8, 0x02#8, 0x03#8, 0x10#8, 0x11#8, 0x12#8, 0x13#8] ∧ fieldRsv w = 0 ∧
      ¬ (fieldF w = true ∧ fieldOpc w ≠ 0x03#8) ∧ ¬ (fieldA w ≠ 0 ∧ fieldOpc w ∉ [0x02#8, 0x03#8]) := by
  simp only [decode_eq_ok_iff_fields]
  constructor
  · rintro ⟨i, hrsv, hf, ha, hopc⟩
    rw [hrsv, hf, ha, hopc]
    cases i <;> simp [Instr.flagOperand, Instr.byteOperand, Instr.opcode]
  · rintro ⟨hopc, hrsv, hf, ha⟩
    have hplain : ∀ opc ∈ [0x01#8, 0x02#8, 0x03#8, 0x10#8, 0x11#8, 0x12#8, 0x13#8],
        opc ∉ [0x02#8, 0x03#8] → (plainOpcode opc).isSome = true := by decide
    by_cases hcrc8 : fieldOpc w = 0x03#8
    · exact ⟨.crc8 (fieldA w) (fieldF w), hrsv, rfl, rfl, hcrc8⟩
    have hf' : fieldF w = false := Bool.eq_false_iff.mpr fun h => hf ⟨h, hcrc8⟩
    by_cases htblrd : fieldOpc w = 0x02#8
    · exact ⟨.tblrd (fieldA w), hrsv, hf', rfl, htblrd⟩
    have hbare : fieldOpc w ∉ [0x02#8, 0x03#8] := by simp [htblrd, hcrc8]
    have ha' : fieldA w = 0 := not_not.mp fun h => ha ⟨h, hbare⟩
    obtain ⟨i, hi⟩ := Option.isSome_iff_exists.mp (hplain _ hopc hbare)
    obtain ⟨hif, hia, hiopc⟩ := plainOpcode_eq_some hi
    exact ⟨i, hrsv, hf'.trans hif.symm, ha'.trans hia.symm, hiopc.symm⟩

end Sys2Proof

namespace Sys2Proof.Machine

/-- Settles O3: a word no row selects has no field pattern of a command, and decodes to none. -/
theorem illegalWordsFailAndChangeNothing : Obligations.IllegalWordsFailAndChangeNothing := by
  refine ⟨fun w => ?_, fun w s hw => ?_, by decide, by decide, rfl⟩
  · rw [← Bool.not_eq_true, wellFormedWord_iff_decode, exists_decode_iff_fields, not_and_or, not_and_or, not_and_or,
      not_not, not_not]
    rfl
  · unfold State.command
    split
    · rename_i i hdec
      rw [wellFormedWord_iff_decode.mpr ⟨i, hdec⟩] at hw
      cases hw
    · rfl

end Sys2Proof.Machine
end

section
/-! PROOFS. The accesses of the pseudo-instructions (30_encoding.md R97), one step each: the byte and register writes of
LOADFRAME and SETCFG, and the write of a command word (R90). -/

namespace Sys2Proof.Machine

variable {s u : State} {rest : List HostEvent} {k : Nat}

/-! ### One step per access -/

theorem stepTimes_succ {t : State} (h : step s = .next t) : stepTimes (k + 1) s = stepTimes k t := by
  rw [stepTimes, h]

theorem stepTimes_one (s : State) : stepTimes 1 s = step s := by
  rw [stepTimes]
  cases step s <;> rfl

theorem stepTimes_wr32 {r : Reg} {v : Word} (hs : s.script = wr32 r v :: rest)
    (hu : (s.setScript rest).storeReg v r = some u) :
    stepTimes (k + 1) s = stepTimes k (u.answer .written) :=
  stepTimes_succ ((step_of_write hs).trans (State.portWrite_reg hu))

theorem stepTimes_wr8Fin {i : Nat} {b : Byte} (hi : i < Config.frameMax) (hs : s.script = wr8Fin i b :: rest) :
    stepTimes (k + 1) s = stepTimes k (((s.setScript rest).putFin i b).answer .written) := by
  have hb : (b.setWidth 32).extractLsb' 0 8 = b := by
    rw [BitVec.extractLsb'_setWidth_of_le (by decide), BitVec.extractLsb'_eq_self]
  refine stepTimes_succ ((step_of_write hs).trans ?_)
  rw [State.portWrite_fin hi, hb]

theorem step_of_cmd {w : Word} {i : Instr} (hs : s.script = .access (.write 0x000 4 w) :: rest)
    (hw : decode w = .ok i) : step s = exec i { s with script := rest, resp := .written } := by
  rw [step_of_write hs, State.portWrite_cmd, State.command, hw]
  rfl

/-- Settles O5, by the access to `CMD` (R90). -/
theorem stepRunsTheDecodedCommand : Obligations.StepRunsTheDecodedCommand := fun _ _ _ _ hs hw =>
  step_of_cmd hs hw

/-! ### `SETCFG` -/

/-- A write of a staging register, `d` before it and `d'` after it. -/
theorem stepTimes_stage {r : Reg} {v : Word} {a : Response} (d d' : Staging)
    (hd : { s with script := rest, resp := a, cfg := d }.storeReg v r =
      some { s with script := rest, resp := a, cfg := d' }) :
    stepTimes (k + 1) { s with script := wr32 r v :: rest, resp := a, cfg := d } =
      stepTimes k { s with script := rest, resp := .written, cfg := d' } :=
  stepTimes_wr32 (s := { s with script := _, resp := a, cfg := d }) rfl hd

/-- Settles O17: each of the seven writes puts one value into the staging configuration, and none of what it held is
left when `CONFIG` runs. -/
theorem setCfgStagesThenConfigures : Obligations.SetCfgStagesThenConfigures := by
  intro s c rest hs
  calc stepTimes 8 s
    _ = stepTimes 8 { s with script := setCfg c ++ rest } := by rw [← hs]
    _ = stepTimes 7 _ := stepTimes_stage s.cfg { s.cfg with id := c.id } rfl
    _ = stepTimes 6 _ := stepTimes_stage _ { s.cfg with id := c.id, dataLen := c.dataLen } rfl
    _ = stepTimes 5 _ := stepTimes_stage _ { s.cfg with id := c.id, dataLen := c.dataLen, mode := c.mode } rfl
    _ = stepTimes 4 _ := stepTimes_stage _
      { c with crcOff := s.cfg.crcOff, nibOff := s.cfg.nibOff, maxDelta := s.cfg.maxDelta } rfl
    _ = stepTimes 3 _ := stepTimes_stage _ { c with nibOff := s.cfg.nibOff, maxDelta := s.cfg.maxDelta } rfl
    _ = stepTimes 2 _ := stepTimes_stage _ { c with maxDelta := s.cfg.maxDelta } rfl
    _ = stepTimes 1 _ := stepTimes_stage _ c rfl
    _ = exec .config { s with script := rest, resp := .written, cfg := c } := by
      rw [stepTimes_one]
      exact step_of_cmd rfl (decode_eq_ok_iff.mpr rfl)

/-! ### `LOADFRAME` -/

/-- The byte writes of `LOADFRAME` are one run of writes to `FIN`. -/
theorem stepTimes_loadBytes {bs : List Byte} {i : Nat} (hi : i + bs.length ≤ Config.frameMax)
    (hs : s.script = loadBytes i bs ++ rest) :
    ∃ resp, stepTimes (bs.length + k) s =
      stepTimes k { s with script := rest, resp := resp, fin := s.fin.writeFrom s.finDraw i bs } := by
  induction bs generalizing s i with
  | nil =>
    obtain rfl : s.script = rest := hs
    exact ⟨s.resp, by rw [List.length_nil, Nat.zero_add]; rfl⟩
  | cons b bs ih =>
    rw [List.length_cons] at hi
    have hcons : s.script = wr8Fin i b :: (loadBytes (i + 1) bs ++ rest) := hs
    rw [List.length_cons, Nat.add_right_comm, stepTimes_wr8Fin (by omega) hcons]
    exact ih (by omega) rfl

/-- Settles O16: the byte writes are one `writeFrom` on `FIN`, and the last write is that of `FIN_LEN`. -/
theorem loadFrameStagesTheFrame : Obligations.LoadFrameStagesTheFrame := by
  intro s bs rest hmem hlen hs
  have hscript : s.script = loadBytes 0 bs ++ wr32 .finLen (BitVec.ofNat 32 bs.length) :: rest := by
    rw [hs, loadFrame, List.append_assoc, List.singleton_append]
  obtain ⟨a, hbytes⟩ := stepTimes_loadBytes (k := 1) (by omega) hscript
  have hread (k : Nat) : (s.fin.writeFrom s.finDraw 0 bs).read s.finDraw k = bs.getD k (s.finByte k) := by
    rw [Memory.read_writeFrom hmem.fin_wf, if_pos (Nat.zero_le k), Nat.sub_zero, State.finByte]
  refine ⟨_, hbytes.trans (stepTimes_wr32 rfl rfl), List.ext_getElem (State.finFrame_length _) fun k hk hk' => ?_,
    ?_, fun k hk => ?_, rfl⟩
  · rw [State.finFrame_getElem]
    exact (hread k).trans (List.getD_eq_getElem _ _ hk')
  · have hmax := Config.frameMax_le
    exact BitVec.toNat_ofNat _ _ |>.trans (Nat.mod_eq_of_lt (by omega))
  · exact (hread k).trans (List.getD_eq_default _ _ hk)

end Sys2Proof.Machine
end

section
/-! PROOFS. The CRC engine (40_crc_engine.md): the laws of the table and of the running register (R121 to R125), and
what `GENTBL`, `TBLRD` and `CRC8` answer (R126 to R131). -/

namespace Sys2Proof.Machine

variable {s t : State}

/-! ### The bit-serial step -/

theorem crcShift_eq_xor (r : Byte) : crcShift r = r <<< 1 ^^^ if r.getLsbD 7 then Config.poly else 0 := by
  unfold crcShift
  split
  · rfl
  · exact BitVec.xor_zero.symm

/-- One iteration is linear: where both top bits are set, the polynomial enters twice and cancels. -/
theorem crcShift_xor (x y : Byte) : crcShift (x ^^^ y) = crcShift x ^^^ crcShift y := by
  have hpoly : ∀ a b : Bool, (if a ^^ b then Config.poly else 0) =
      (if a then Config.poly else 0) ^^^ if b then Config.poly else 0 := by decide
  rw [crcShift_eq_xor, crcShift_eq_xor x, crcShift_eq_xor y, BitVec.shiftLeft_xor_distrib, BitVec.getLsbD_xor, hpoly]
  ac_rfl

/-- Bit 0 after an iteration says whether the polynomial, which is odd, was XORed in. -/
theorem crcShift_getLsbD_zero (r : Byte) : (crcShift r).getLsbD 0 = r.getLsbD 7 := by
  rw [crcShift_eq_xor]
  cases r.getLsbD 7 <;> simp [Config.poly]

/-- A shift by one loses the top bit alone. -/
theorem eq_of_shiftLeft_one_eq {x y : Byte} (hmsb : x.getLsbD 7 = y.getLsbD 7) (h : x <<< 1 = y <<< 1) : x = y := by
  refine BitVec.eq_of_getLsbD_eq fun i hi => ?_
  by_cases h7 : i = 7
  · rw [h7, hmsb]
  · have hbit : (x <<< 1).getLsbD (i + 1) = (y <<< 1).getLsbD (i + 1) := by rw [h]
    have hi' : i + 1 < 8 := by omega
    simpa [hi, hi'] using hbit

/-- One iteration loses nothing: bit 0 gives the lost top bit back. -/
theorem crcShift_injective : Function.Injective crcShift := by
  intro x y h
  have hmsb : x.getLsbD 7 = y.getLsbD 7 := by
    rw [← crcShift_getLsbD_zero, ← crcShift_getLsbD_zero, h]
  rw [crcShift_eq_xor, crcShift_eq_xor, hmsb, BitVec.xor_left_inj] at h
  exact eq_of_shiftLeft_one_eq hmsb h

theorem repeat_crcShift_xor (k : Nat) (x y : Byte) :
    Nat.repeat crcShift k (x ^^^ y) = Nat.repeat crcShift k x ^^^ Nat.repeat crcShift k y := by
  induction k with
  | zero => rfl
  | succ k ih => exact (congrArg crcShift ih).trans (crcShift_xor _ _)

theorem repeat_crcShift_injective (k : Nat) : Function.Injective (Nat.repeat crcShift k) := by
  induction k with
  | zero => exact Function.injective_id
  | succ k ih => exact crcShift_injective.comp ih

/-! ### The table and the running register -/

theorem tableEntry_xor (x y : Byte) : tableEntry (x ^^^ y) = tableEntry x ^^^ tableEntry y :=
  repeat_crcShift_xor 8 x y

theorem tableEntry_injective : Function.Injective tableEntry := repeat_crcShift_injective 8

theorem crcStep_crcTable_injective_right (r : Byte) : Function.Injective (crcStep crcTable r) := by
  intro b b' h
  rw [crcStep_crcTable, crcStep_crcTable] at h
  exact BitVec.xor_right_inj _ |>.mp (tableEntry_injective h)

theorem crcStep_crcTable_injective_left (b : Byte) : Function.Injective fun r => crcStep crcTable r b := by
  intro r r' h
  simp only [crcStep_crcTable] at h
  exact BitVec.xor_left_inj _ |>.mp (tableEntry_injective h)

theorem crcRun_append (tbl : Vector Byte 256) (r : Byte) (A B : List Byte) :
    crcRun tbl r (A ++ B) = crcRun tbl (crcRun tbl r A) B := List.foldl_append

/-- Two registers that differ stay different over the same bytes. -/
theorem crcRun_crcTable_injective (bs : List Byte) : Function.Injective fun r => crcRun crcTable r bs := by
  induction bs with
  | nil => exact Function.injective_id
  | cons b bs ih => exact ih.comp (crcStep_crcTable_injective_left b)

/-- Settles O19, by evaluation of the closed table. -/
theorem crcTableIsThePrintedTable : Obligations.CrcTableIsThePrintedTable := by
  unfold Obligations.CrcTableIsThePrintedTable
  decide +kernel

/-- Settles O20: the laws follow from one iteration of R121 being linear and injective, and the last from the register
staying different once two bytes have made it so. -/
theorem crcEngineLaws : Obligations.CrcEngineLaws := by
  refine ⟨by decide, ⟨by decide, by decide, by decide⟩, fun x y => (tableEntry_xor x y).symm,
    ⟨Finite.injective_iff_bijective.mp tableEntry_injective,
      fun r => Finite.injective_iff_bijective.mp (crcStep_crcTable_injective_right r),
      fun b => Finite.injective_iff_bijective.mp (crcStep_crcTable_injective_left b)⟩,
    crcStep_crcTable, crcRun_append crcTable, fun r b b' A C hne heq => hne ?_⟩
  rw [crcRun_append, crcRun_append, crcRun_append, crcRun_append] at heq
  exact crcStep_crcTable_injective_right _ (crcRun_crcTable_injective C heq)

/-! ### The commands -/

/-- Settles O21: the state GENTBL answers already holds what it writes. -/
theorem gentblFillsTheTable : Obligations.GentblFillsTheTable := fun s =>
  ⟨(s.setTable crcTable).done, rfl, fun _ h => crcTable_getElem h, rfl, rfl⟩

theorem execTblrd_of_table (h : s.tblValid = true) (idx : Byte) :
    execTblrd idx s = .next (s.setDout (s.tbl[idx.toNat]'idx.isLt)).done :=
  if_neg (by simp [h])

theorem execTblrd_of_noTable (h : s.tblValid = false) (idx : Byte) : execTblrd idx s = .next (s.raise .noTable) :=
  if_pos h

/-- Settles O22, by the two cases of `TBL_VALID`. -/
theorem tblrdReadsOneEntry : Obligations.TblrdReadsOneEntry := fun _ idx =>
  ⟨fun h => execTblrd_of_table h idx, fun h => ⟨execTblrd_of_noTable h idx, rfl⟩⟩

section
variable (start : Byte) (first : Bool)

theorem execCrc8_of_fits (hv : s.tblValid = true) (hl : s.finLen.toNat ≤ Config.frameMax) :
    execCrc8 start first s = .next (s.setDout (crcRun s.tbl start (s.finFrame s.finLen.toNat))).done := by
  rw [execCrc8, if_neg (by simp [hv]), if_neg (Nat.not_lt.mpr hl)]

theorem execCrc8_of_noTable (hv : s.tblValid = false) : execCrc8 start first s = .next (s.raise .noTable) :=
  if_pos hv

theorem execCrc8_of_tooLong (hv : s.tblValid = true) (hl : Config.frameMax < s.finLen.toNat) :
    execCrc8 start first s = .next (s.raise .length) := by
  rw [execCrc8, if_neg (by simp [hv]), if_pos hl]

variable {start first}

theorem exec_crc8_dout (hv : s.tblValid = true) (hl : s.finLen.toNat ≤ Config.frameMax)
    (h : exec (.crc8 start first) s = .next t) : t.dout = crcRun s.tbl start (s.finFrame s.finLen.toNat) := by
  obtain rfl := Host.Outcome.next.inj ((execCrc8_of_fits start first hv hl).symm.trans h)
  rfl

end

/-- Settles O23, by the two tests of `CRC8` in their order. -/
theorem crc8ChecksumsTheInput : Obligations.Crc8ChecksumsTheInput := fun _ start first =>
  ⟨execCrc8_of_fits start first, fun hv => ⟨execCrc8_of_noTable start first hv, rfl⟩,
    fun hv hl => ⟨execCrc8_of_tooLong start first hv hl, rfl⟩⟩

/-- Settles O24: the run over the first fragment is the seed of the run over the second. -/
theorem chainedCrc8EqualsOneRun : Obligations.ChainedCrc8EqualsOneRun := by
  intro s₁ s₂ s t₁ t₂ t seed first hv₁ hv₂ hv htbl₂ htbl hl₁ hl₂ hl hframe h₁ h₂ h
  calc t₂.dout
    _ = crcRun s₁.tbl t₁.dout (s₂.finFrame s₂.finLen.toNat) := by rw [exec_crc8_dout hv₂ hl₂ h₂, htbl₂]
    _ = crcRun s₁.tbl seed (s₁.finFrame s₁.finLen.toNat ++ s₂.finFrame s₂.finLen.toNat) := by
      rw [crcRun_append, exec_crc8_dout hv₁ hl₁ h₁]
    _ = t.dout := by rw [exec_crc8_dout hv hl h, htbl, hframe]

end Sys2Proof.Machine
end

section
/-! PROOFS. The configuration (41_config.md): the tests of `validate()` in their order (R153), what `CONFIG` latches and
what it leaves alone (R152), and that nothing but `CONFIG` and reset reaches `ACT` (R155). -/

namespace Sys2Proof.Machine

variable {s t : State} {w : Word} {i : Instr} {c : Staging} {frameMax : Nat} {e : ErrCode}

/-! ### `validate()` -/

/-- R153 as it is printed: every test reads the staged values as unsigned numbers. -/
theorem validate_eq_toNat (frameMax : Nat) (c : Staging) : validate frameMax c =
    if c.dataLen.toNat % 8 ≠ 0 ∨ c.dataLen.toNat = 0 ∨ frameMax < c.dataLen.toNat / 8 then some .cfgDataLen
    else if 1 < c.mode.toNat ∨ 14 < c.maxDelta.toNat then some .cfgRange
    else if c.crcOff.toNat % 8 ≠ 0 then some .cfgCrcAlign
    else if c.dataLen.toNat / 8 ≤ c.crcOff.toNat / 8 ∨ c.dataLen.toNat / 8 ≤ c.ctrOff.toNat / 8 ∨
        (c.mode.toNat = 1 ∧ c.dataLen.toNat / 8 ≤ c.nibOff.toNat / 8) then some .cfgBounds
    else if 4 < c.ctrOff.toNat % 8 then some .cfgCtrBit
    else none := by
  have hzero : c.dataLen = 0 ↔ c.dataLen.toNat = 0 := BitVec.toNat_eq
  have hone : c.mode = 1 ↔ c.mode.toNat = 1 := BitVec.toNat_eq
  simp only [validate, hzero, hone]

theorem validate_eq_none_iff : validate frameMax c = none ↔ StagedLegal frameMax c := by
  refine ⟨stagedLegal_of_validate, fun h => ?_⟩
  obtain ⟨hbytes, hpos, hle, hmode, hdelta, halign, hcrc, hctr, hnib, hsh⟩ := h
  rw [validate_eq_toNat, if_neg (by omega), if_neg (by omega), if_neg (by omega), if_neg (by omega),
    if_neg (by omega)]

theorem ne_noError_of_validate (h : validate frameMax c = some e) : e ≠ .noError := by
  rintro rfl
  rw [validate_eq_toNat] at h
  split_ifs at h <;> cases h

/-! ### `CONFIG` -/

theorem exec_config_of_some (h : validate Config.frameMax s.cfg = some e) : exec .config s = .next (s.raise e) := by
  rw [exec, execConfig, h]

theorem exec_config_of_none (h : validate Config.frameMax s.cfg = none) :
    exec .config s = .next (s.latch (latched s.cfg)).done := by
  rw [exec, execConfig, h]

theorem latched_mode_eq_iff (h : c.mode.toNat ≤ 1) : (latched c).mode = .dataIdNibble ↔ c.mode = 1 := by
  refine ⟨fun hm => BitVec.eq_of_toNat_eq (mode_eq_one_of_latched h hm), fun hm => ?_⟩
  rw [latched, hm]
  rfl

/-- Settles O25: `validate()` accepts exactly the legal staged values, and those fit the fields of `ACT`. -/
theorem configConstructsTheEngine : Obligations.ConfigConstructsTheEngine := by
  intro s
  constructor
  · intro h
    have hmax := Config.frameMax_le
    have hv := validate_eq_none_iff.mpr h
    obtain ⟨-, -, hle, hmode, hdelta, -, hcrc, hctr, -, -⟩ := h
    refine ⟨_, exec_config_of_none hv, BitVec.extractLsb'_toNat .., ?_, latched_mode_eq_iff hmode, ?_, ?_, rfl, ?_, rfl⟩
    all_goals exact extractLsb'_zero_toNat_of_lt (by omega)
  · intro h
    obtain ⟨e, he⟩ := Option.ne_none_iff_exists'.mp (mt validate_eq_none_iff.mp h)
    exact ⟨e, ne_noError_of_validate he, exec_config_of_some he⟩

/-- Settles O26: the tests of `validate()`, each where those before it have passed. -/
theorem configReportsTheFirstFailure : Obligations.ConfigReportsTheFirstFailure := by
  intro s
  have hv := validate_eq_toNat Config.frameMax s.cfg
  refine ⟨fun h₁ => ⟨exec_config_of_some ?_, rfl⟩, fun h₁ h₂ => ⟨exec_config_of_some ?_, rfl⟩,
    fun h₁ h₂ h₃ => ⟨exec_config_of_some ?_, rfl⟩, fun h₁ h₂ h₃ h₄ => ⟨exec_config_of_some ?_, rfl⟩,
    fun h₁ h₂ h₃ h₄ h₅ => ⟨exec_config_of_some ?_, rfl⟩,
    fun h₁ h₂ h₃ h₄ h₅ => ⟨_, exec_config_of_none ?_, rfl, rfl⟩⟩
  · rw [hv, if_pos h₁]
  · rw [hv, if_neg h₁, if_pos h₂]
  · rw [hv, if_neg h₁, if_neg h₂, if_pos h₃]
  · rw [hv, if_neg h₁, if_neg h₂, if_neg h₃, if_pos h₄]
  · rw [hv, if_neg h₁, if_neg h₂, if_neg h₃, if_neg h₄, if_pos h₅]
  · rw [hv, if_neg h₁, if_neg h₂, if_neg h₃, if_neg h₄, if_neg h₅]

/-! ### What reaches `ACT` -/

theorem eq_config_of_exec_act_ne (h : exec i s = .next t) (hne : t.act ≠ s.act) :
    i = .config ∧ t.commandDone ∧ t.cfgValid = true := by
  obtain ⟨-, -, -, -, -, -, -, hact, -⟩ := commandsWriteOnlyTheirElements i s t h
  obtain rfl : i = .config := by
    by_contra hi
    exact hne (hact hi).1
  obtain ⟨e, -, rfl⟩ | ⟨-, rfl⟩ := execConfig_cases h
  · exact absurd rfl hne
  · exact ⟨rfl, rfl, rfl⟩

theorem State.eq_encode_config_of_command_act_ne (h : s.command w = .next t) (hne : t.act ≠ s.act) :
    w = encode .config ∧ t.commandDone ∧ t.cfgValid = true := by
  obtain ⟨i, hi, hexec⟩ | ⟨-, rfl⟩ := State.command_cases h
  · obtain ⟨rfl, hdone⟩ := eq_config_of_exec_act_ne hexec hne
    exact ⟨decode_eq_ok_iff.mp hi, hdone⟩
  · exact absurd rfl hne

theorem State.eq_cmd_of_portWrite_act_ne {addr n : Nat} (h : s.portWrite addr n w = .next t) (hne : t.act ≠ s.act) :
    (addr = 0x000 ∧ n = 4) ∧ w = encode .config ∧ t.commandDone ∧ t.cfgValid = true := by
  by_cases hcmd : addr = 0x000 ∧ n = 4
  · obtain ⟨rfl, rfl⟩ := hcmd
    rw [State.portWrite_cmd] at h
    exact ⟨⟨rfl, rfl⟩, State.eq_encode_config_of_command_act_ne h hne⟩
  · refine absurd ?_ hne
    rw [(State.portWrite_frame hcmd h).1]

/-- Settles O27: of the cases of a step, only the reset and a write of `CONFIG` to `CMD` can change `ACT`. -/
theorem activeConfigurationIsImmutable : Obligations.ActiveConfigurationIsImmutable := by
  intro s t hstep hne
  obtain ⟨-, rfl⟩ | ⟨_, _, _, -, rfl⟩ | ⟨addr, n, v, rest, hs, hwrite⟩ | ⟨rest, hs, -⟩ := step_cases hstep
  · exact absurd rfl hne
  · exact absurd rfl hne
  · obtain ⟨⟨rfl, rfl⟩, rfl, hdone⟩ := State.eq_cmd_of_portWrite_act_ne hwrite hne
    exact .inr ⟨⟨rest, hs⟩, hdone⟩
  · exact .inl ⟨rest, hs⟩

end Sys2Proof.Machine
end

section
/-! PROOFS. The nibble primitives (42_protect.md R170 to R172), each law bit by bit, and two nibbles of one byte whose
fields are disjoint (43_check.md R208). -/

namespace Sys2Proof.Machine

variable {b : Byte} {v w : Nibble} {s s' i : Nat}

/-! ### One field -/

theorem fullNibble_getLsbD (i : Nat) : (0xF#4).getLsbD i = decide (i < 4) := BitVec.getLsbD_allOnes

theorem nibGet_nibPut_same : nibGet (nibPut b s v) s = v &&& (0xF#4 >>> (s - 4)) := by
  refine BitVec.eq_of_getLsbD_eq fun i hi => ?_
  rw [nibGet_getLsbD _ _ hi, BitVec.getLsbD_and, BitVec.getLsbD_ushiftRight, fullNibble_getLsbD]
  by_cases hfit : s + i < 8
  · rw [nibPut_getLsbD _ _ _ hfit, if_pos (by omega), Nat.add_sub_cancel_left, decide_eq_true (by omega), Bool.and_true]
  · rw [BitVec.getLsbD_of_ge _ _ (by omega), decide_eq_false (by omega), Bool.and_false]

theorem nibGet_nibPut_of_le_four (h : s ≤ 4) : nibGet (nibPut b s v) s = v := by
  rw [nibGet_nibPut_same, Nat.sub_eq_zero_of_le h]
  exact BitVec.and_allOnes

theorem nibPut_nibPut_same : nibPut (nibPut b s v) s w = nibPut b s w := by
  refine BitVec.eq_of_getLsbD_eq fun i hi => ?_
  rw [nibPut_getLsbD _ _ _ hi, nibPut_getLsbD _ _ _ hi, nibPut_getLsbD _ _ _ hi]
  split <;> rfl

theorem nibPut_nibGet_same : nibPut b s (nibGet b s) = b := by
  refine BitVec.eq_of_getLsbD_eq fun i hi => ?_
  rw [nibPut_getLsbD _ _ _ hi]
  split
  · rw [nibGet_getLsbD _ _ (by omega), Nat.add_sub_cancel' (by omega)]
  · rfl

/-- Up to shift 4 the whole nibble is in the byte, so that different nibbles make different bytes. -/
theorem nibPut_injective_of_le_four (b : Byte) (h : s ≤ 4) : Function.Injective (nibPut b s) := fun v w heq => by
  rw [← nibGet_nibPut_of_le_four (b := b) (v := v) h, heq, nibGet_nibPut_of_le_four h]

/-! ### Two disjoint fields -/

theorem nibMask_getLsbD (s : Nat) (hi : i < 8) : (nibMask s).getLsbD i = decide (s ≤ i ∧ i < s + 4) := by
  have hput : nibMask s = nibPut 0#8 s 0xF#4 := by simp [nibMask, nibPut]
  rw [hput, nibPut_getLsbD _ _ _ hi, fullNibble_getLsbD]
  by_cases hin : s ≤ i ∧ i < s + 4
  · rw [if_pos hin, decide_eq_true hin, decide_eq_true (by omega)]
  · rw [if_neg hin, decide_eq_false hin, BitVec.getLsbD_zero]

/-- No bit of the byte lies in two disjoint fields. -/
theorem not_both_of_nibMask_disjoint (h : nibMask s &&& nibMask s' = 0) (hi : i < 8) (hs : s ≤ i ∧ i < s + 4) :
    ¬ (s' ≤ i ∧ i < s' + 4) := fun hs' => by
  have hbit : (nibMask s &&& nibMask s').getLsbD i = false := h ▸ BitVec.getLsbD_zero
  rw [BitVec.getLsbD_and, nibMask_getLsbD _ hi, nibMask_getLsbD _ hi, decide_eq_true hs, decide_eq_true hs'] at hbit
  cases hbit

theorem nibPut_comm_of_disjoint (h : nibMask s &&& nibMask s' = 0) :
    nibPut (nibPut b s v) s' w = nibPut (nibPut b s' w) s v := by
  refine BitVec.eq_of_getLsbD_eq fun i hi => ?_
  rw [nibPut_getLsbD _ _ _ hi, nibPut_getLsbD _ _ _ hi, nibPut_getLsbD _ _ _ hi, nibPut_getLsbD _ _ _ hi]
  by_cases hs : s ≤ i ∧ i < s + 4
  · rw [if_neg (not_both_of_nibMask_disjoint h hi hs), if_pos hs, if_pos hs]
  · rw [if_neg hs, if_neg hs]

theorem nibGet_nibPut_of_disjoint (h : nibMask s &&& nibMask s' = 0) : nibGet (nibPut b s' w) s = nibGet b s := by
  refine BitVec.eq_of_getLsbD_eq fun i hi => ?_
  rw [nibGet_getLsbD _ _ hi, nibGet_getLsbD _ _ hi]
  by_cases hfit : s + i < 8
  · rw [nibPut_getLsbD _ _ _ hfit, if_neg (not_both_of_nibMask_disjoint h hfit (by omega))]
  · rw [BitVec.getLsbD_of_ge _ _ (by omega), BitVec.getLsbD_of_ge _ _ (by omega)]

/-- Settles O28: the laws of one field, and shifts 0 and 4 as two disjoint fields. -/
theorem nibblePrimitiveLaws : Obligations.NibblePrimitiveLaws := fun _ _ _ _ _ =>
  have h04 : nibMask 0 &&& nibMask 4 = 0 := by decide
  have h40 : nibMask 4 &&& nibMask 0 = 0 := by decide
  ⟨nibGet_nibPut_of_le_four, nibGet_nibPut_same, nibPut_nibPut_same, nibPut_nibGet_same,
    nibPut_comm_of_disjoint h04, nibGet_nibPut_of_disjoint h04, nibGet_nibPut_of_disjoint h40⟩

end Sys2Proof.Machine
end

section
/-! PROOFS. The frame transform (42_protect.md R173 to R175): what each byte and each bit of the frame is, and that the
frame is settled by its bytes outside the CRC byte. -/

namespace Sys2Proof.Machine

variable {tbl : Vector Byte 256} {c : ActConfig} {f g : List Byte} {ctr ctr' : Nibble} {i j : Nat}

/-! ### The checksum -/

/-- Settles O29: the two runs of `p11_crc` are one run over the bytes in a row, and XOR with 0xFF is the complement. -/
theorem checksumCoversIdentifierAndFrame : Obligations.ChecksumCoversIdentifierAndFrame := by
  intro c out _
  have hid : [c.id.extractLsb' 0 8, if c.mode = .both then 0#4 ++ c.id.extractLsb' 8 4 else 0x00] = idBytes c := by
    unfold idBytes
    cases c.mode with
    | both => simp [actIdLo, actIdHi, actIdNib, BitVec.setWidth_eq_append]
    | dataIdNibble => rfl
  rw [hid, crcRun_append, ← List.eraseIdx_eq_take_drop_succ]
  exact BitVec.xor_allOnes

/-- The running register tells two frames apart that differ in one byte. -/
theorem crcRun_crcTable_set_injective (r : Byte) (h : i < f.length) :
    Function.Injective fun b => crcRun crcTable r (f.set i b) := by
  intro b b' heq
  simp only [List.set_eq_take_append_cons_drop, if_pos h, crcRun_append, crcRun_cons] at heq
  exact crcStep_crcTable_injective_right _ (crcRun_crcTable_injective _ heq)

/-- The checksum tells two frames apart that differ in one byte, the CRC byte excepted. -/
theorem p11Crc_crcTable_set_injective (hi : i < f.length) (hcrc : actCrcByte c < f.length) (hne : i ≠ actCrcByte c) :
    Function.Injective fun b => p11Crc crcTable c (f.set i b) := by
  intro b b' heq
  have hrun := BitVec.xor_left_inj _ |>.mp heq
  have hlen := List.length_eraseIdx_of_lt hcrc
  obtain hlt | hgt := Nat.lt_or_gt_of_ne hne
  · rw [List.eraseIdx_set_gt hlt, List.eraseIdx_set_gt hlt] at hrun
    exact crcRun_crcTable_set_injective _ (by omega) hrun
  · rw [List.eraseIdx_set_lt hgt, List.eraseIdx_set_lt hgt] at hrun
    exact crcRun_crcTable_set_injective _ (by omega) hrun

/-! ### The bytes and the bits of the frame -/

/-- R173, the counter byte after step 3. -/
theorem byteAt_putCounter_same (h : actCtrByte c < f.length) :
    byteAt (putCounter c f ctr) (actCtrByte c) = nibPut (byteAt f (actCtrByte c)) (actCtrSh c) ctr :=
  byteAt_set_same h _

/-- R173 step 2, bit by bit. -/
theorem putIdNibble_getLsbD (hi : i < f.length) (hj : j < 8) :
    (byteAt (putIdNibble c f) i).getLsbD j =
      if c.mode = .dataIdNibble ∧ i = actNibByte c ∧ actNibSh c ≤ j ∧ j < actNibSh c + 4 then
        c.id.getLsbD (8 + (j - actNibSh c))
      else (byteAt f i).getLsbD j := by
  by_cases hn : c.mode = .dataIdNibble ∧ i = actNibByte c
  · obtain ⟨hm, rfl⟩ := hn
    rw [putIdNibble_nibble hm, byteAt_set_same hi, nibPut_getLsbD _ _ _ hj]
    by_cases hin : actNibSh c ≤ j ∧ j < actNibSh c + 4
    · rw [if_pos hin, if_pos ⟨hm, rfl, hin⟩, actIdNib, BitVec.getLsbD_extractLsb', decide_eq_true (by omega),
        Bool.true_and]
    · rw [if_neg hin, if_neg fun h => hin h.2.2]
  · rw [byteAt_putIdNibble_other _ fun hm he => hn ⟨hm, he.symm⟩, if_neg fun h => hn ⟨h.1, h.2.1⟩]

/-- R173 step 3, bit by bit. -/
theorem putCounter_getLsbD (hi : i < f.length) (hj : j < 8) :
    (byteAt (putCounter c f ctr) i).getLsbD j =
      if i = actCtrByte c ∧ actCtrSh c ≤ j ∧ j < actCtrSh c + 4 then ctr.getLsbD (j - actCtrSh c)
      else (byteAt f i).getLsbD j := by
  by_cases hc : i = actCtrByte c
  · subst hc
    simp only [byteAt_putCounter_same hi, nibPut_getLsbD _ _ _ hj, true_and]
  · rw [byteAt_putCounter_other _ _ _ (Ne.symm hc), if_neg fun h => hc h.1]

/-- R173, every bit outside the CRC byte: step 3 writes over step 2, and step 2 over the input. -/
theorem p11Frame_getLsbD (hi : i < f.length) (hcrc : i ≠ actCrcByte c) (hj : j < 8) :
    (byteAt (p11Frame tbl c f ctr) i).getLsbD j =
      if i = actCtrByte c ∧ actCtrSh c ≤ j ∧ j < actCtrSh c + 4 then ctr.getLsbD (j - actCtrSh c)
      else if c.mode = .dataIdNibble ∧ i = actNibByte c ∧ actNibSh c ≤ j ∧ j < actNibSh c + 4 then
        c.id.getLsbD (8 + (j - actNibSh c))
      else (byteAt f i).getLsbD j := by
  rw [byteAt_p11Frame _ _ _ hi, if_neg hcrc, putCounter_getLsbD (by simpa using hi) hj, putIdNibble_getLsbD hi hj]

/-- R173, a byte that no step writes. -/
theorem byteAt_p11Frame_other (hcrc : i ≠ actCrcByte c) (hctr : i ≠ actCtrByte c)
    (hnib : c.mode = .dataIdNibble → i ≠ actNibByte c) : byteAt (p11Frame tbl c f ctr) i = byteAt f i := by
  rw [p11Frame, byteAt_putCrc_other _ _ _ hcrc.symm, byteAt_putCounter_other _ _ _ hctr.symm,
    byteAt_putIdNibble_other _ fun hm => (hnib hm).symm]

/-- R173, step 5: the checksum in the CRC byte. -/
theorem byteAt_p11Frame_crcByte (h : actCrcByte c < f.length) :
    byteAt (p11Frame tbl c f ctr) (actCrcByte c) = p11Crc tbl c (putCounter c (putIdNibble c f) ctr) := by
  rw [byteAt_p11Frame _ _ _ h, if_pos rfl]

/-- The checksum in the CRC byte is that of the frame it stands in (R174: it does not enter itself). -/
theorem byteAt_p11Frame_crcByte_eq_p11Crc (h : actCrcByte c < f.length) :
    byteAt (p11Frame tbl c f ctr) (actCrcByte c) = p11Crc tbl c (p11Frame tbl c f ctr) := by
  rw [byteAt_p11Frame_crcByte h, p11Frame, putCrc, p11Crc_set_crcByte]

/-- Two transformed frames that agree outside the CRC byte are equal. -/
theorem p11Frame_ext (hl : f.length = g.length)
    (h : ∀ i, i < f.length → i ≠ actCrcByte c →
      byteAt (p11Frame tbl c f ctr) i = byteAt (p11Frame tbl c g ctr') i) :
    p11Frame tbl c f ctr = p11Frame tbl c g ctr' := by
  refine frame_ext (by simpa using hl) fun i hi => ?_
  rw [p11Frame_length] at hi
  by_cases hcrc : i = actCrcByte c
  · subst hcrc
    rw [byteAt_p11Frame_crcByte_eq_p11Crc hi, byteAt_p11Frame_crcByte_eq_p11Crc (hl ▸ hi)]
    exact p11Crc_congr _ _ (by simpa using hl) (by simpa using h)
  · exact h i hi hcrc

/-! ### The laws of the transform -/

theorem p11Frame_set_crcByte (b : Byte) : p11Frame tbl c (f.set (actCrcByte c) b) ctr = p11Frame tbl c f ctr := by
  refine p11Frame_ext List.length_set fun i hi hcrc => BitVec.eq_of_getLsbD_eq fun j hj => ?_
  rw [p11Frame_getLsbD hi hcrc hj, p11Frame_getLsbD (by simpa using hi) hcrc hj, byteAt_set_other _ hcrc.symm]

/-- The fields of the frame already hold what a second transform writes to them. -/
theorem p11Frame_idempotent : p11Frame tbl c (p11Frame tbl c f ctr) ctr = p11Frame tbl c f ctr := by
  refine p11Frame_ext (p11Frame_length ..) fun i hi hcrc => BitVec.eq_of_getLsbD_eq fun j hj => ?_
  rw [p11Frame_length] at hi
  rw [p11Frame_getLsbD (by simpa using hi) hcrc hj, p11Frame_getLsbD hi hcrc hj]
  split
  · rfl
  · split <;> rfl

/-- In mode `BOTH` no step reads the offset of the identifier nibble. -/
theorem p11Frame_nibOff_of_both (hm : c.mode = .both) (off : BitVec 32) :
    p11Frame tbl { c with nibOff := off } f ctr = p11Frame tbl c f ctr := by
  have hm' : ({ c with nibOff := off } : ActConfig).mode = .both := hm
  rw [p11Frame, p11Frame, putIdNibble_both hm, putIdNibble_both hm']
  rfl

/-- The received counter of a transformed frame is the counter it was made with. -/
theorem rxCounter_p11Frame (hlegal : ActLegal Config.frameMax c) (hl : f.length = actN c)
    (hne : actCtrByte c ≠ actCrcByte c) : rxCounter c (p11Frame tbl c f ctr) = ctr := by
  have hctr : actCtrByte c < f.length := hl ▸ hlegal.ctr_in
  rw [rxCounter, byteAt_p11Frame _ _ _ hctr, if_neg hne, byteAt_putCounter_same (by simpa using hctr)]
  exact nibGet_nibPut_of_le_four hlegal.ctr_sh

/-- Different counters make different counter bytes, and those different checksums. -/
theorem byteAt_p11Frame_crcByte_ne (hlegal : ActLegal Config.frameMax c) (hl : f.length = actN c)
    (hne : actCtrByte c ≠ actCrcByte c) (hctr : ctr ≠ ctr') :
    byteAt (p11Frame crcTable c f ctr) (actCrcByte c) ≠ byteAt (p11Frame crcTable c f ctr') (actCrcByte c) := by
  have hcrcIn : actCrcByte c < f.length := hl ▸ hlegal.crc_in
  have hctrIn : actCtrByte c < f.length := hl ▸ hlegal.ctr_in
  rw [byteAt_p11Frame_crcByte hcrcIn, byteAt_p11Frame_crcByte hcrcIn]
  intro heq
  have hbyte := p11Crc_crcTable_set_injective (by simpa using hctrIn) (by simpa using hcrcIn) hne heq
  exact hctr (nibPut_injective_of_le_four _ hlegal.ctr_sh hbyte)

/-- Settles O30: the laws of the transform above, at the generated table. -/
theorem frameTransformProperties : Obligations.FrameTransformProperties := fun _ _ _ hlegal hl =>
  ⟨p11Frame_length .., fun _ hcrc hctr hnib => byteAt_p11Frame_other hcrc hctr hnib, p11Frame_set_crcByte,
    rxCounter_p11Frame hlegal hl, p11Frame_idempotent, fun _ => byteAt_p11Frame_crcByte_ne hlegal hl⟩

/-- Settles O53: the bits outside the CRC byte, and the checksum in it. -/
theorem frameTransformWritesTheFields : Obligations.FrameTransformWritesTheFields := by
  intro tbl c inp ctr hlegal hl
  exact ⟨(p11Frame_length ..).trans hl, fun i j hi hcrc hj => p11Frame_getLsbD (hl ▸ hi) hcrc hj,
    byteAt_p11Frame_crcByte_eq_p11Crc (hl ▸ hlegal.crc_in), p11Frame_nibOff_of_both, p11Frame_set_crcByte⟩

/-- The identifier nibble of a transformed frame, where neither the CRC byte nor the counter covers it (R208). -/
theorem nibGet_p11Frame_nibByte (hnib : actNibByte c < f.length) (hm : c.mode = .dataIdNibble)
    (hcrc : actNibByte c ≠ actCrcByte c)
    (hdisj : actNibByte c = actCtrByte c → nibMask (actNibSh c) &&& nibMask (actCtrSh c) = 0) :
    nibGet (byteAt (p11Frame tbl c f ctr) (actNibByte c)) (actNibSh c) =
      actIdNib c &&& (0xF#4 >>> (actNibSh c - 4)) := by
  rw [byteAt_p11Frame _ _ _ hnib, if_neg hcrc, byteAt_putCounter_putIdNibble _ _ hnib]
  simp only [hm, and_self, if_true]
  split
  · rw [nibGet_nibPut_of_disjoint (hdisj (Eq.symm ‹_›)), nibGet_nibPut_same]
  · exact nibGet_nibPut_same

/-- Settles O37, by evaluation of the two frames. -/
theorem scenarioFrames : Obligations.ScenarioFrames := by
  unfold Obligations.ScenarioFrames
  decide +kernel

end Sys2Proof.Machine
end

section
/-! PROOFS. The integer form of an 8-byte frame (42_protect.md R177): bit `j` of the integer is bit `j % 8` of byte
`j / 8`. -/

namespace Sys2Proof.Machine

variable {v : BitVec 64} {B : List Byte} {k : Nat}

@[simp] theorem bytesLe_length (v : BitVec 64) : (bytesLe v).length = 8 := by simp [bytesLe]

theorem byteAt_bytesLe (v : BitVec 64) (hk : k < 8) : byteAt (bytesLe v) k = v.extractLsb' (8 * k) 8 := by
  rw [byteAt_of_lt (by simpa using hk)]
  simp [bytesLe]

theorem intLe_cons (b : Byte) (B : List Byte) : intLe (b :: B) = intLe B <<< 8 ||| b.setWidth 64 := rfl

/-- Every bit of `int_le`; a byte that is not there counts as zero. -/
theorem intLe_getLsbD (B : List Byte) {j : Nat} (hj : j < 64) :
    (intLe B).getLsbD j = (B.getD (j / 8) 0).getLsbD (j % 8) := by
  induction B generalizing j with
  | nil => simp [intLe]
  | cons b B ih =>
    rw [intLe_cons, BitVec.getLsbD_or, BitVec.getLsbD_shiftLeft, BitVec.getLsbD_setWidth, decide_eq_true hj]
    by_cases h8 : j < 8
    · simp [h8, Nat.div_eq_of_lt h8, Nat.mod_eq_of_lt h8]
    · obtain ⟨i, rfl⟩ := Nat.exists_eq_add_of_le (Nat.le_of_not_lt h8)
      have hdiv : (8 + i) / 8 = i / 8 + 1 := by omega
      have hmod : (8 + i) % 8 = i % 8 := by omega
      have htop : b.getLsbD (8 + i) = false := BitVec.getLsbD_of_ge _ _ (by omega)
      rw [hdiv, hmod, List.getD_cons_succ, ← ih (by omega), htop]
      simp

/-- R177, a byte of the integer. -/
theorem extractLsb'_intLe (hk : k < 8) (hB : k < B.length) : (intLe B).extractLsb' (8 * k) 8 = byteAt B k := by
  refine BitVec.eq_of_getLsbD_eq fun j hj => ?_
  have hdiv : (8 * k + j) / 8 = k := by omega
  have hmod : (8 * k + j) % 8 = j := by omega
  rw [BitVec.getLsbD_extractLsb', decide_eq_true hj, Bool.true_and, intLe_getLsbD _ (by omega), hdiv, hmod,
    List.getD_eq_getElem _ _ hB, byteAt_of_lt hB]

theorem bytesLe_intLe (hB : B.length = 8) : bytesLe (intLe B) = B := by
  refine frame_ext (by simp [hB]) fun k hk => ?_
  rw [bytesLe_length] at hk
  rw [byteAt_bytesLe _ hk, extractLsb'_intLe hk (hB ▸ hk)]

/-- Two integers with the same bytes are equal. -/
theorem bytesLe_injective : Function.Injective bytesLe := by
  intro v w h
  refine BitVec.eq_of_getLsbD_eq fun j hj => ?_
  have hbyte : v.extractLsb' (8 * (j / 8)) 8 = w.extractLsb' (8 * (j / 8)) 8 := by
    rw [← byteAt_bytesLe v (by omega), h, byteAt_bytesLe w (by omega)]
  have hbit := congrArg (·.getLsbD (j % 8)) hbyte
  simpa [BitVec.getLsbD_extractLsb', Nat.mod_lt, Nat.div_add_mod] using hbit

theorem intLe_bytesLe (v : BitVec 64) : intLe (bytesLe v) = v :=
  bytesLe_injective (bytesLe_intLe (bytesLe_length v))

/-- Settles O31: the bytes of each form, and the two round trips. -/
theorem bytesAndIntegerAreInverse : Obligations.BytesAndIntegerAreInverse :=
  ⟨fun v _ => byteAt_bytesLe v, fun _ _ hB hk => extractLsb'_intLe hk (hB ▸ hk),
    fun v => ⟨bytesLe_length v, intLe_bytesLe v⟩, fun _ => bytesLe_intLe⟩

end Sys2Proof.Machine
end

section
/-! PROOFS. The commands PROTECT and PROTECT64 (42_protect.md R176, R178): what each answers, case by case, and what a
run of them leaves. -/

namespace Sys2Proof.Machine

variable {s : State} {i n : Nat} {out : List Byte}

/-! ### The frame in `FOUT` -/

/-- A run of writes over an earlier one of the same bytes leaves no trace of it. -/
theorem Memory.writeFrom_writeFrom {dflt : Nat → Byte} {m : Memory} (hm : m.wf dflt) {a : Nat} {bs bs' : List Byte}
    (hl : bs.length = bs'.length) : (m.writeFrom dflt a bs).writeFrom dflt a bs' = m.writeFrom dflt a bs' := by
  have hbs := Memory.writeFrom_wf hm a bs
  refine Memory.ext_of_wf (Memory.writeFrom_wf hbs a bs') (Memory.writeFrom_wf hm a bs') fun a' => ?_
  rw [Memory.read_writeFrom hbs, Memory.read_writeFrom hm, Memory.read_writeFrom hm]
  split
  · by_cases hin : a' - a < bs'.length
    · rw [List.getD_eq_getElem _ _ hin, List.getD_eq_getElem _ _ hin]
    · rw [List.getD_eq_default _ _ (by omega), List.getD_eq_default _ _ (by omega), List.getD_eq_default _ _ (by omega)]
  · rfl

theorem State.emitFrame_foutByte_of_lt (h : s.fout.wf s.foutDraw) (hi : i < out.length) :
    (s.emitFrame out n).foutByte i = byteAt out i := by
  rw [State.emitFrame_foutByte h, byteAt_of_lt hi, List.getD_eq_getElem _ _ hi]

theorem State.setV64Out_halves (s : State) (v : BitVec 64) :
    (s.setV64Out v).v64OutHi ++ (s.setV64Out v).v64OutLo = v := by
  rw [State.setV64Out_v64OutHi, State.setV64Out_v64OutLo,
    BitVec.extractLsb'_append_extractLsb'_eq_extractLsb' (rfl : 32 = 0 + 32)]
  exact BitVec.extractLsb'_eq_self

/-- R176: the counter advances modulo 16. -/
theorem ctr_succ_toNat (c : Nibble) : (c + 1).toNat = (c.toNat + 1) % 16 := BitVec.toNat_add ..

theorem ofNat_actN_toNat (c : ActConfig) : (BitVec.ofNat 32 (actN c)).toNat = actN c := by
  have hlt := c.dataLen.isLt
  rw [BitVec.toNat_ofNat, actN]
  omega

theorem actN_eq_eight {a : ActConfig} (h : a.dataLen = 64) : actN a = 8 := by rw [actN, h]; rfl

/-! ### What the commands answer -/

/-- The frame that `PROTECT` makes (R176). -/
def State.protectFrame (s : State) : List Byte := p11Frame s.tbl s.act (s.finFrame (actN s.act)) s.ctr

/-- The frame that `PROTECT64` makes (R178). -/
def State.protect64Frame (s : State) : List Byte := p11Frame s.tbl s.act (bytesLe s.v64In) s.ctr

/-- What `PROTECT` answers where it does not fail. -/
def State.afterProtect (s : State) : State := (s.emitFrame s.protectFrame (actN s.act)).done

/-- What `PROTECT64` answers where it does not fail. -/
def State.afterProtect64 (s : State) : State :=
  ((s.emitFrame s.protect64Frame 8).setV64Out (intLe s.protect64Frame)).done

@[simp] theorem State.protectFrame_length (s : State) : s.protectFrame.length = actN s.act := by
  simp [State.protectFrame]

@[simp] theorem State.protect64Frame_length (s : State) : s.protect64Frame.length = 8 := by
  simp [State.protect64Frame]

theorem State.afterProtect_foutByte (h : s.fout.wf s.foutDraw) (hi : i < actN s.act) :
    s.afterProtect.foutByte i = byteAt s.protectFrame i := by
  rw [State.afterProtect, State.done_foutByte, State.emitFrame_foutByte_of_lt h (by simpa using hi)]

theorem State.afterProtect_foutByte_above (hi : actN s.act ≤ i) : s.afterProtect.foutByte i = s.foutByte i := by
  rw [State.afterProtect, State.done_foutByte, State.emitFrame_foutByte_above _ _ (by simpa using hi)]

theorem State.afterProtect64_foutByte (h : s.fout.wf s.foutDraw) (hi : i < 8) :
    s.afterProtect64.foutByte i = byteAt s.protect64Frame i := by
  rw [State.afterProtect64, State.done_foutByte, State.setV64Out_foutByte,
    State.emitFrame_foutByte_of_lt h (by simpa using hi)]

theorem State.afterProtect64_foutByte_above (hi : 8 ≤ i) : s.afterProtect64.foutByte i = s.foutByte i := by
  rw [State.afterProtect64, State.done_foutByte, State.setV64Out_foutByte,
    State.emitFrame_foutByte_above _ _ (by simpa using hi)]

@[simp] theorem State.afterProtect_finByte (s : State) (i : Nat) : s.afterProtect.finByte i = s.finByte i := by
  simp [State.afterProtect]

@[simp] theorem State.afterProtect64_finByte (s : State) (i : Nat) : s.afterProtect64.finByte i = s.finByte i := by
  simp [State.afterProtect64]

@[simp] theorem State.afterProtect_finFrame (s : State) (n : Nat) : s.afterProtect.finFrame n = s.finFrame n := by
  simp [State.afterProtect]

theorem State.afterProtect_fout (s : State) : s.afterProtect.fout = s.fout.writeFrom s.foutDraw 0 s.protectFrame := rfl

theorem State.afterProtect64_v64Out (s : State) :
    s.afterProtect64.v64OutHi ++ s.afterProtect64.v64OutLo = intLe s.protect64Frame :=
  State.setV64Out_halves (s.emitFrame s.protect64Frame 8) (intLe s.protect64Frame)

section
variable (hv : s.tblValid = true) (hc : s.cfgValid = true)
include hv

theorem exec_protect_of_noConfig (hc : s.cfgValid = false) : exec .protect s = .next (s.raise .noConfig) := by
  rw [exec, execProtect, if_neg (by simp [hv]), if_pos hc]

theorem exec_protect64_of_noConfig (hc : s.cfgValid = false) : exec .protect64 s = .next (s.raise .noConfig) := by
  rw [exec, execProtect64, if_neg (by simp [hv]), if_pos hc]

include hc

theorem exec_protect_of_length (hl : s.finLen.toNat ≠ actN s.act) : exec .protect s = .next (s.raise .length) := by
  rw [exec, execProtect, if_neg (by simp [hv]), if_neg (by simp [hc]), if_pos hl]

theorem exec_protect_of_ready (hl : s.finLen.toNat = actN s.act) : exec .protect s = .next s.afterProtect := by
  rw [exec, execProtect, if_neg (by simp [hv]), if_neg (by simp [hc]), if_neg (by simp [hl])]
  rfl

theorem exec_protect64_of_length (hl : s.act.dataLen ≠ 64) : exec .protect64 s = .next (s.raise .length) := by
  rw [exec, execProtect64, if_neg (by simp [hv]), if_neg (by simp [hc]), if_pos hl]

theorem exec_protect64_of_ready (hl : s.act.dataLen = 64) : exec .protect64 s = .next s.afterProtect64 := by
  rw [exec, execProtect64, if_neg (by simp [hv]), if_neg (by simp [hc]), if_neg (by simp [hl])]
  rfl

end

theorem exec_protect_of_noTable (hv : s.tblValid = false) : exec .protect s = .next (s.raise .noTable) := if_pos hv

theorem exec_protect64_of_noTable (hv : s.tblValid = false) : exec .protect64 s = .next (s.raise .noTable) := if_pos hv

/-- Settles O32: the state PROTECT answers in each of its cases, read off element by element. -/
theorem protectEmitsTheFrame : Obligations.ProtectEmitsTheFrame := fun s hwf =>
  ⟨fun hv hc hl => ⟨s.afterProtect, exec_protect_of_ready hv hc hl, fun _ => State.afterProtect_foutByte hwf,
      fun _ => State.afterProtect_foutByte_above, s.afterProtect_finByte, ofNat_actN_toNat s.act, ctr_succ_toNat s.ctr,
      execProtect_frame (exec_protect_of_ready hv hc hl)⟩,
    fun hv => ⟨exec_protect_of_noTable hv, rfl⟩, fun hv hc => ⟨exec_protect_of_noConfig hv hc, rfl⟩,
    fun hv hc hl => ⟨exec_protect_of_length hv hc hl, rfl⟩⟩

/-- Settles O33: the state PROTECT64 answers in each of its cases, read off element by element. -/
theorem protect64EmitsTheInteger : Obligations.Protect64EmitsTheInteger := fun s hwf =>
  ⟨fun hv hc hl => ⟨s.afterProtect64, exec_protect64_of_ready hv hc hl, fun _ => State.afterProtect64_foutByte hwf,
      fun _ => State.afterProtect64_foutByte_above, s.afterProtect64_finByte, s.afterProtect64_v64Out, rfl,
      ctr_succ_toNat s.ctr, execProtect64_frame (exec_protect64_of_ready hv hc hl)⟩,
    fun hv => ⟨exec_protect64_of_noTable hv, rfl⟩, fun hv hc => ⟨exec_protect64_of_noConfig hv hc, rfl⟩,
    fun hv hc hl => ⟨exec_protect64_of_length hv hc hl, rfl⟩⟩

/-- Settles O54: the nibble of the transformed frame, and the frame in `FOUT`. -/
theorem identifierNibbleIsWritten : Obligations.IdentifierNibbleIsWritten := by
  intro c hlegal hm hcrc hdisj
  have hin := hlegal.nib_in hm
  have hframe (tbl : Vector Byte 256) (inp : List Byte) (ctr : Nibble) (hl : inp.length = actN c) :
      nibGet (byteAt (p11Frame tbl c inp ctr) (actNibByte c)) (actNibSh c) =
        actIdNib c &&& (0xF#4 >>> (actNibSh c - 4)) :=
    nibGet_p11Frame_nibByte (hl ▸ hin) hm hcrc hdisj
  refine ⟨fun hsh => ?_, hframe, fun s hv hc hact hwf => ?_⟩
  · rw [Nat.sub_eq_zero_of_le hsh]
    exact BitVec.and_allOnes
  · subst hact
    refine ⟨fun hl => ⟨_, exec_protect_of_ready hv hc hl, ?_⟩, fun hl => ⟨_, exec_protect64_of_ready hv hc hl, ?_⟩⟩
    · rw [State.afterProtect_foutByte hwf hin]
      exact hframe _ _ _ (s.finFrame_length _)
    · have h8 := actN_eq_eight hl
      rw [State.afterProtect64_foutByte hwf (h8 ▸ hin)]
      exact hframe _ _ _ ((bytesLe_length _).trans h8.symm)

/-! ### PROTECT64 beside PROTECT -/

/-- The 64-bit overload is PROTECT with `V64_OUT` beside it, where `FIN` holds the bytes of `V64_IN`. -/
theorem State.afterProtect64_eq (hl : s.act.dataLen = 64) (h : s.finFrame 8 = bytesLe s.v64In) :
    s.afterProtect64 = { s.afterProtect with
      v64OutLo := s.afterProtect64.v64OutLo, v64OutHi := s.afterProtect64.v64OutHi } := by
  have hframe : s.protect64Frame = s.protectFrame := by
    rw [State.protect64Frame, State.protectFrame, actN_eq_eight hl, h]
  rw [State.afterProtect64, State.afterProtect, hframe, actN_eq_eight hl]
  rfl

/-- The frame read back from `FOUT` is the one whose integer is in `V64_OUT`. -/
theorem State.map_afterProtect64_foutByte (h : s.fout.wf s.foutDraw) :
    (List.range 8).map s.afterProtect64.foutByte = s.protect64Frame := by
  refine List.ext_getElem (by simp) fun i _ hi => ?_
  rw [List.getElem_map, List.getElem_range, State.afterProtect64_foutByte h (by simpa using hi), byteAt_of_lt hi]

/-- Settles O34: both commands emit the same frame, and `V64_OUT` is its integer. -/
theorem protect64AgreesWithProtect : Obligations.Protect64AgreesWithProtect := by
  intro s hwf hv hc hlen hfinLen hframe
  have hfin : s.finLen.toNat = actN s.act := by rw [hfinLen, actN_eq_eight hlen]; rfl
  refine ⟨_, _, exec_protect_of_ready hv hc hfin, exec_protect64_of_ready hv hc hlen,
    State.afterProtect64_eq hlen hframe, ?_⟩
  rw [s.afterProtect64_v64Out, bytesLe_intLe s.protect64Frame_length, State.map_afterProtect64_foutByte hwf]

/-- Settles O35: no test of PROTECT64 and no element it writes depends on `FIN` or `FIN_LEN`. -/
theorem protect64IgnoresTheInputBuffer : Obligations.Protect64IgnoresTheInputBuffer := by
  intro s t f l h
  obtain ⟨hv, rfl⟩ | ⟨hv, hc, rfl⟩ | ⟨hv, hc, hl, rfl⟩ | ⟨hv, hc, hl, rfl⟩ := execProtect64_cases h
  · exact exec_protect64_of_noTable hv
  · exact exec_protect64_of_noConfig hv hc
  · exact exec_protect64_of_length hv hc hl
  · exact exec_protect64_of_ready hv hc hl

/-! ### PROTECT again and again -/

/-- What `PROTECT` answers where `CTR` is `c`. -/
def State.protectAt (s : State) (c : Nibble) : State := (s.setCtr c).afterProtect

theorem State.protectFrame_protectAt (s : State) (c : Nibble) :
    (s.protectAt c).protectFrame = (s.setCtr (c + 1)).protectFrame := by
  rw [State.protectFrame, State.protectAt, State.afterProtect_finFrame, State.setCtr_finFrame]
  rfl

/-- A second `PROTECT` overwrites all that the first wrote. -/
theorem State.afterProtect_protectAt (hwf : s.fout.wf s.foutDraw) (c : Nibble) :
    (s.protectAt c).afterProtect = s.protectAt (c + 1) := by
  have hfout : (s.protectAt c).afterProtect.fout = (s.protectAt (c + 1)).fout := by
    rw [State.afterProtect_fout, State.protectFrame_protectAt]
    exact Memory.writeFrom_writeFrom hwf (by simp)
  calc (s.protectAt c).afterProtect
    _ = { s.protectAt (c + 1) with fout := (s.protectAt c).afterProtect.fout } := rfl
    _ = s.protectAt (c + 1) := by rw [hfout]

section
variable (hwf : s.fout.wf s.foutDraw) (hv : s.tblValid = true) (hc : s.cfgValid = true)
  (hl : s.finLen.toNat = actN s.act)
include hwf hv hc hl

theorem execTimes_protect_protectAt (k : Nat) (c : Nibble) :
    execTimes .protect k (s.protectAt c) = .next (s.protectAt (c + BitVec.ofNat 4 k)) := by
  induction k generalizing c with
  | zero => rw [execTimes, BitVec.add_zero]
  | succ k ih =>
    have hnext : exec .protect (s.protectAt c) = .next (s.protectAt c).afterProtect := exec_protect_of_ready hv hc hl
    have hctr : c + 1 + BitVec.ofNat 4 k = c + BitVec.ofNat 4 (k + 1) := by
      rw [BitVec.ofNat_add]
      ac_rfl
    rw [execTimes, hnext, State.afterProtect_protectAt hwf]
    exact hctr ▸ ih (c + 1)

/-- Every `PROTECT` of a run overwrites the frames before it, with `CTR` advanced once for each of them. -/
theorem execTimes_protect_succ (k : Nat) :
    execTimes .protect (k + 1) s = .next (s.protectAt (s.ctr + BitVec.ofNat 4 k)) := by
  have hfirst : exec .protect s = .next (s.protectAt s.ctr) := exec_protect_of_ready hv hc hl
  rw [execTimes, hfirst]
  exact execTimes_protect_protectAt hwf hv hc hl k s.ctr

end

/-- Settles O36: 16 more commands advance `CTR` by 16, which is 0 in a nibble. -/
theorem protectHasPeriodSixteen : Obligations.ProtectHasPeriodSixteen := by
  intro s hwf hv hc hl
  have hrun := execTimes_protect_succ hwf hv hc hl
  have hctr : s.ctr + BitVec.ofNat 4 15 + 1 = s.ctr := by rw [BitVec.add_assoc]; exact BitVec.add_zero _
  have hwrap : BitVec.ofNat 4 16 = BitVec.ofNat 4 0 := by decide
  exact ⟨_, _, _, hrun 0, hrun 15, hrun 16, hctr, by rw [hwrap]⟩

end Sys2Proof.Machine
end

section
/-! PROOFS. The classification of a received frame (43_check.md R204 to R206): when it is intact, in the expected-frame
form and in the direct form, and which status its counter distance then gives. -/

namespace Sys2Proof.Machine

variable {tbl : Vector Byte 256} {c : ActConfig} {rx f : List Byte} {ctr : Nibble} {k : Nat} {b : Byte}

/-! ### The status by integrity and distance -/

/-- R205: the modular distance as a number in 0..15. -/
theorem nibble_sub_toNat (v w : Nibble) : (v - w).toNat = (v.toNat + 16 - w.toNat) % 16 := by
  have hlt := w.isLt
  rw [BitVec.toNat_sub]
  omega

/-- R204, the two comparisons with the expected frame, which carries the received counter (R201). -/
def Intact (tbl : Vector Byte 256) (c : ActConfig) (rx : List Byte) : Prop :=
  crcOk c (p11Frame tbl c rx (rxCounter c rx)) rx = true ∧ idOk c (p11Frame tbl c rx (rxCounter c rx)) rx = true

theorem crcOk_eq_decide (c : ActConfig) (expd rx : List Byte) :
    crcOk c expd rx = decide (byteAt expd (actCrcByte c) = byteAt rx (actCrcByte c)) := rfl

theorem idOk_eq_decide (c : ActConfig) (expd rx : List Byte) :
    idOk c expd rx = decide (c.mode = .both ∨
      nibGet (byteAt expd (actNibByte c)) (actNibSh c) = nibGet (byteAt rx (actNibByte c)) (actNibSh c)) := by
  unfold idOk
  cases c.mode with
  | both => simp
  | dataIdNibble => rw [decide_eq_decide.mpr (or_iff_right nofun)]; rfl

theorem intact_iff : Intact tbl c rx ↔
    byteAt (p11Frame tbl c rx (rxCounter c rx)) (actCrcByte c) = byteAt rx (actCrcByte c) ∧
      (c.mode = .both ∨ nibGet (byteAt (p11Frame tbl c rx (rxCounter c rx)) (actNibByte c)) (actNibSh c) =
        nibGet (byteAt rx (actNibByte c)) (actNibSh c)) := by
  rw [Intact, crcOk_eq_decide, idOk_eq_decide, decide_eq_true_iff, decide_eq_true_iff]

theorem frameStatus_of_not_intact (h : ¬ Intact tbl c rx) : frameStatus tbl c ctr rx = .error := by
  have hbad := not_and_or.mp h
  simp only [Bool.not_eq_true] at hbad
  exact if_pos hbad

/-- R206 with the row of distance 0 first, which no `maxDelta` reaches (R208). -/
theorem frameStatus_of_intact (h : Intact tbl c rx) : frameStatus tbl c ctr rx =
    if rxCounter c rx - ctr = 0 then .repeated
    else if c.maxDelta < rxCounter c rx - ctr then .error
    else if rxCounter c rx - ctr = 1 then .ok
    else .okSomeLost := by
  obtain ⟨hcrc, hid⟩ := h
  simp only [frameStatus, classify, hcrc, hid, Bool.true_eq_false, or_self, if_false]
  split_ifs with hlt hzero
  · exact absurd (hzero ▸ hlt) BitVec.not_lt_zero
  all_goals rfl

/-- R206, the rows by what each status says of the frame, with the distance as a number. -/
theorem frameStatus_rows (tbl : Vector Byte 256) (c : ActConfig) (ctr : Nibble) (rx : List Byte) :
    (frameStatus tbl c ctr rx = .error ↔
      ¬ Intact tbl c rx ∨ c.maxDelta.toNat < (rxCounter c rx - ctr).toNat) ∧
    (frameStatus tbl c ctr rx = .repeated ↔ Intact tbl c rx ∧ (rxCounter c rx - ctr).toNat = 0) ∧
    (frameStatus tbl c ctr rx = .ok ↔
      Intact tbl c rx ∧ (rxCounter c rx - ctr).toNat ≤ c.maxDelta.toNat ∧ (rxCounter c rx - ctr).toNat = 1) ∧
    (frameStatus tbl c ctr rx = .okSomeLost ↔
      Intact tbl c rx ∧ (rxCounter c rx - ctr).toNat ≤ c.maxDelta.toNat ∧ 2 ≤ (rxCounter c rx - ctr).toNat) := by
  by_cases h : Intact tbl c rx
  · have hzero (d : Nibble) : d = 0 ↔ d.toNat = 0 := BitVec.toNat_eq
    have hone (d : Nibble) : d = 1 ↔ d.toNat = 1 := BitVec.toNat_eq
    rw [frameStatus_of_intact h]
    simp only [h, hzero, hone, BitVec.lt_def, not_true, false_or, true_and]
    split_ifs <;> simp only [true_iff, false_iff] <;> omega
  · simp [frameStatus_of_not_intact h, h]

/-! ### The direct form -/

theorem set_byteAt (f : List Byte) (k : Nat) : f.set k (byteAt f k) = f := by
  by_cases h : k < f.length
  · rw [byteAt_of_lt h, List.set_getElem_self]
  · exact List.set_eq_of_length_le (Nat.le_of_not_lt h)

/-- A nibble whose part that fits is already in the byte changes nothing (42_protect.md R172). -/
theorem nibPut_eq_self {s : Nat} {v : Nibble} (h : nibGet b s = v &&& (0xF#4 >>> (s - 4))) : nibPut b s v = b :=
  calc nibPut b s v
    _ = nibPut (nibPut b s v) s (nibGet (nibPut b s v) s) := nibPut_nibGet_same.symm
    _ = nibPut b s (nibGet b s) := by rw [nibPut_nibPut_same, nibGet_nibPut_same, h]
    _ = b := nibPut_nibGet_same

/-- R204: in mode `DATA_ID_NIBBLE` the identifier nibble of the frame is the part of `id[11:8]` that fits. -/
def NibbleMatches (c : ActConfig) (rx : List Byte) : Prop :=
  c.mode = .dataIdNibble → nibGet (byteAt rx (actNibByte c)) (actNibSh c) = actIdNib c &&& (0xF#4 >>> (actNibSh c - 4))

theorem putIdNibble_eq_self (h : NibbleMatches c rx) : putIdNibble c rx = rx := by
  cases hm : c.mode with
  | both => exact putIdNibble_both hm rx
  | dataIdNibble => rw [putIdNibble_nibble hm, nibPut_eq_self (h hm), set_byteAt]

theorem putCounter_rxCounter (c : ActConfig) (rx : List Byte) : putCounter c rx (rxCounter c rx) = rx := by
  rw [putCounter, rxCounter, nibPut_nibGet_same, set_byteAt]

/-- R204: the CRC byte expected of a frame with the right identifier nibble is the checksum over that frame. -/
theorem byteAt_expected_crcByte (hcrc : actCrcByte c < rx.length) (h : NibbleMatches c rx) :
    byteAt (p11Frame tbl c rx (rxCounter c rx)) (actCrcByte c) = p11Crc tbl c rx := by
  rw [byteAt_p11Frame_crcByte hcrc, putIdNibble_eq_self h, putCounter_rxCounter]

section
variable (hlegal : ActLegal Config.frameMax c) (hdisj : LayoutDisjoint c) (hl : rx.length = actN c)
include hlegal hdisj hl

/-- R204: the identifier nibble expected of a frame does not depend on the frame. -/
theorem idOk_expected_iff :
    idOk c (p11Frame tbl c rx (rxCounter c rx)) rx = true ↔ NibbleMatches c rx := by
  rw [idOk_eq_decide, decide_eq_true_iff, NibbleMatches]
  cases hm : c.mode with
  | both => simp
  | dataIdNibble =>
    rw [nibGet_p11Frame_nibByte (hl ▸ hlegal.nib_in hm) hm (hdisj.nib_not_crc hm) (hdisj.nib_not_ctr hm)]
    simp [eq_comm]

/-- R204, the two forms of the integrity comparison. -/
theorem intact_iff_direct : Intact tbl c rx ↔ byteAt rx (actCrcByte c) = p11Crc tbl c rx ∧ NibbleMatches c rx := by
  rw [Intact, idOk_expected_iff hlegal hdisj hl, crcOk_eq_decide, decide_eq_true_iff]
  refine and_congr_left fun hnib => ?_
  rw [byteAt_expected_crcByte (hl ▸ hlegal.crc_in) hnib, eq_comm]

end

/-! ### Frames that the packer made -/

/-- R208: the frame expected of a transformed frame is that frame. -/
theorem intact_p11Frame (h : rxCounter c (p11Frame tbl c f ctr) = ctr) : Intact tbl c (p11Frame tbl c f ctr) := by
  rw [intact_iff, h, p11Frame_idempotent]
  exact ⟨rfl, .inr rfl⟩

/-- R209 item 5: the checksum catches a wrong byte, in the CRC byte or outside it. -/
theorem not_intact_set_p11Frame (hlegal : ActLegal Config.frameMax c) (hdisj : LayoutDisjoint c)
    (hl : f.length = actN c) (hk : k < actN c) (hb : b ≠ byteAt (p11Frame crcTable c f ctr) k) :
    ¬ Intact crcTable c ((p11Frame crcTable c f ctr).set k b) := by
  have hlen : (p11Frame crcTable c f ctr).length = actN c := (p11Frame_length ..).trans hl
  have hcrc : byteAt (p11Frame crcTable c f ctr) (actCrcByte c) = p11Crc crcTable c (p11Frame crcTable c f ctr) :=
    byteAt_p11Frame_crcByte_eq_p11Crc (hl ▸ hlegal.crc_in)
  generalize p11Frame crcTable c f ctr = g at hb hlen hcrc
  rw [intact_iff_direct hlegal hdisj (List.length_set.trans hlen)]
  rintro ⟨heq, -⟩
  by_cases hkc : k = actCrcByte c
  · subst hkc
    rw [byteAt_set_same (hlen ▸ hk), p11Crc_set_crcByte, ← hcrc] at heq
    exact hb heq
  · have hset : p11Crc crcTable c (g.set k b) = p11Crc crcTable c (g.set k (byteAt g k)) := by
      rw [set_byteAt, ← hcrc, ← heq, byteAt_set_other _ hkc]
    exact hb (p11Crc_crcTable_set_injective (hlen ▸ hk) (hlen ▸ hlegal.crc_in) hkc hset)

end Sys2Proof.Machine
end

section
/-! PROOFS. The command CHECK (43_check.md R202, R203, R207): what it answers, case by case, and what follows for the
frames of a stream (R208, R209). -/

namespace Sys2Proof.Machine

variable {s t : State}

/-- The status that `CHECK` gives the frame in `FIN` (R202). -/
def State.checkStatus (s : State) : CheckStatus := frameStatus s.tbl s.act s.ctr (s.finFrame (actN s.act))

/-- The counter of the frame in `FIN` (R202). -/
def State.rxCtr (s : State) : Nibble := rxCounter s.act (s.finFrame (actN s.act))

/-- What `CHECK` answers for a frame of the right length. -/
def State.afterCheck (s : State) : State := ((s.report s.checkStatus).resync s.checkStatus s.rxCtr).done

theorem accepted_iff (st : CheckStatus) : accepted st = true ↔ st = .ok ∨ st = .okSomeLost := by
  cases st <;> decide

theorem State.afterCheck_eq (s : State) : s.afterCheck =
    { s with result := s.checkStatus, resValid := true, err := .noError,
             ctr := if s.checkStatus = .ok ∨ s.checkStatus = .okSomeLost then s.rxCtr else s.ctr } := by
  rw [State.afterCheck, State.resync_frame, State.resync_ctr]
  simp only [accepted_iff]
  rfl

@[simp] theorem State.afterCheck_result (s : State) : s.afterCheck.result = s.checkStatus := by
  rw [State.afterCheck_eq]

theorem State.afterCheck_ctr (s : State) :
    s.afterCheck.ctr = if s.checkStatus = .ok ∨ s.checkStatus = .okSomeLost then s.rxCtr else s.ctr := by
  rw [State.afterCheck_eq]

/-! ### What the command answers -/

theorem exec_check_of_noTable (hv : s.tblValid = false) : exec .check s = .next (s.raise .noTable) := if_pos hv

section
variable (hv : s.tblValid = true)
include hv

theorem exec_check_of_noConfig (hc : s.cfgValid = false) : exec .check s = .next (s.raise .noConfig) := by
  rw [exec, execCheck, if_neg (by simp [hv]), if_pos hc]

variable (hc : s.cfgValid = true)
include hc

theorem exec_check_of_wrongLength (hl : s.finLen.toNat ≠ actN s.act) :
    exec .check s = .next (s.report .wrongInput).done := by
  rw [exec, execCheck, if_neg (by simp [hv]), if_neg (by simp [hc]), if_pos hl]

theorem exec_check_of_ready (hl : s.finLen.toNat = actN s.act) : exec .check s = .next s.afterCheck := by
  rw [exec, execCheck, if_neg (by simp [hv]), if_neg (by simp [hc]), if_neg (by simp [hl])]
  rfl

/-- R207: without acceptance the counter is held. -/
theorem exec_check_of_not_accepted {st : CheckStatus} (hl : s.finLen.toNat = actN s.act) (hst : s.checkStatus = st)
    (h : accepted st = false) :
    exec .check s = .next { s with result := st, resValid := true, err := .noError } := by
  rw [exec_check_of_ready hv hc hl, State.afterCheck, hst, State.resync, h]
  rfl

/-- Inversion: a `CHECK` with a table and a configuration ends `done`. -/
theorem exec_check_done_cases (h : exec .check s = .next t) :
    (s.finLen.toNat ≠ actN s.act ∧ t = (s.report .wrongInput).done) ∨
      (s.finLen.toNat = actN s.act ∧ t = s.afterCheck) := by
  obtain ⟨hnoTable, -⟩ | ⟨-, hnoConfig, -⟩ | ⟨-, -, hl, ht⟩ | ⟨-, -, hl, ht⟩ := execCheck_cases h
  · simp [hv] at hnoTable
  · simp [hc] at hnoConfig
  · exact .inl ⟨hl, ht⟩
  · exact .inr ⟨hl, ht⟩

end

/-- Settles O38: the case of R202 that each premise selects. -/
theorem checkClassifiesTheFrame : Obligations.CheckClassifiesTheFrame := by
  intro s
  refine ⟨fun hv => ⟨exec_check_of_noTable hv, rfl⟩, fun hv hc => ⟨exec_check_of_noConfig hv hc, rfl⟩,
    fun hv hc hl => exec_check_of_wrongLength hv hc hl, fun hv hc hl => ?_⟩
  have hst : s.checkStatus = classify _ _ _ _ := rfl
  rw [crcOk_eq_decide, idOk_eq_decide] at hst
  rw [exec_check_of_ready hv hc hl, State.afterCheck_eq, hst]
  rfl

/-- Settles O39: the answer to a wrong length names no byte of `FIN`. -/
theorem wrongLengthIsWrongInput : Obligations.WrongLengthIsWrongInput := fun _ _ hv hc hl =>
  ⟨exec_check_of_wrongLength hv hc hl, rfl⟩

/-- Settles O40: the rows of `classify`, with the comparisons and the distance written out. -/
theorem checkFollowsTheClassification : Obligations.CheckFollowsTheClassification := by
  refine ⟨⟨rfl, rfl, rfl, rfl⟩, fun s hv hc hl => ⟨_, exec_check_of_ready hv hc hl, ?_⟩⟩
  obtain ⟨herror, hrepeated, hok, hlost⟩ := frameStatus_rows s.tbl s.act s.ctr (s.finFrame (actN s.act))
  rw [nibble_sub_toNat] at herror hrepeated hok hlost
  rw [State.afterCheck_result]
  refine ⟨fun hbad => herror.mpr (.inl ?_), fun hcrc hid => ?_, fun hmax => ?_, fun hmax hst => ?_⟩
  · rw [intact_iff]
    exact not_and_or.mpr hbad
  · have hgood := intact_iff.mpr ⟨hcrc, hid⟩
    exact ⟨fun hd => herror.mpr (.inr hd), fun hd => hrepeated.mpr ⟨hgood, hd⟩,
      fun hle hd => hok.mpr ⟨hgood, hle, hd⟩, fun hle hd => hlost.mpr ⟨hgood, hle, hd⟩⟩
  · rw [State.checkStatus, herror, hrepeated, hmax]
    obtain hd | hd := Nat.eq_zero_or_pos ((s.rxCtr.toNat + 16 - s.ctr.toNat) % 16)
    · exact (em' _).imp .inl fun hgood => ⟨hgood, hd⟩
    · exact .inl (.inr hd)
  · obtain ⟨-, hle, hd⟩ := hlost.mp hst
    rw [hmax] at hle
    exact absurd (hd.trans hle) (by decide)

/-- Settles O41: what each status says of the distance, and the counter that goes with it. -/
theorem counterMovesOnlyOnAcceptance : Obligations.CounterMovesOnlyOnAcceptance := by
  intro s t hv hc h
  obtain ⟨-, rfl⟩ | ⟨-, rfl⟩ := exec_check_done_cases hv hc h
  · simp
  · obtain ⟨-, hrepeated, hok, -⟩ := frameStatus_rows s.tbl s.act s.ctr (s.finFrame (actN s.act))
    obtain ⟨hseq, hnew⟩ := frameStatus_produced s.tbl s.act s.ctr (s.finFrame (actN s.act))
    rw [State.afterCheck_result, State.afterCheck_ctr]
    refine ⟨fun hacc => if_pos hacc, fun hst => ?_, fun hheld => if_neg ?_, fun hst => ?_, hnew, hseq⟩
    · obtain ⟨-, -, hone⟩ := hok.mp hst
      rw [if_pos (.inl hst), add_comm, ← sub_eq_iff_eq_add]
      exact BitVec.eq_of_toNat_eq hone
    · obtain hst | hst | hst := hheld <;> simp [hst]
    · exact sub_eq_zero.mp (BitVec.eq_of_toNat_eq (hrepeated.mp hst).2)

/-- Settles O42: the expected frame is the received one, so that only the rows on the distance are left. -/
theorem roundTripDependsOnTheCounterAlone : Obligations.RoundTripDependsOnTheCounterAlone := by
  intro s inp c hv hc hlegal hdisj hinp hl hrx
  have hrc : rxCounter s.act (p11Frame s.tbl s.act inp c) = c := rxCounter_p11Frame hlegal hinp hdisj.ctr_not_crc
  refine ⟨_, exec_check_of_ready hv hc hl, rfl, ?_, hrx ▸ hrc, hrx ▸ p11Frame_idempotent, ?_⟩
  · rw [State.afterCheck_eq]
  · rw [State.afterCheck_result, State.checkStatus, hrx, frameStatus_of_intact (intact_p11Frame hrc), hrc]

/-- Settles O43: such a frame is not intact. -/
theorem oneWrongByteIsAlwaysError : Obligations.OneWrongByteIsAlwaysError := by
  intro s inp c k b hv hc htbl hlegal hdisj hinp hl hk hb hrx
  refine exec_check_of_not_accepted hv hc hl (frameStatus_of_not_intact ?_) rfl
  rw [htbl] at hb
  rw [hrx, htbl]
  exact not_intact_set_p11Frame hlegal hdisj hinp hk hb

/-- Settles O44: the frame is one behind `CTR`, at distance 15, which no legal `maxDelta` reaches. -/
theorem ownOutputIsError : Obligations.OwnOutputIsError := by
  intro s t u hv hc hlegal hne hl hwf hprotect hu hcopy
  rw [exec_protect_of_ready hv hc hl] at hprotect
  obtain rfl := Host.Outcome.next.inj hprotect
  have hframe : u.finFrame (actN s.act) = s.protectFrame :=
    frame_ext (by simp) fun i hi => by
      rw [State.finFrame_length] at hi
      rw [byteAt_of_lt (by simpa using hi), State.finFrame_getElem, hcopy i hi, State.afterProtect_foutByte hwf hi]
  have hrc : rxCounter s.act s.protectFrame = s.ctr := rxCounter_p11Frame hlegal (s.finFrame_length _) hne
  have hst : frameStatus s.tbl s.act (s.ctr + 1) s.protectFrame = .error := by
    obtain ⟨herror, -⟩ := frameStatus_rows s.tbl s.act (s.ctr + 1) s.protectFrame
    have hmax := hlegal.maxDelta_le
    have hlt := s.ctr.isLt
    rw [herror, hrc, nibble_sub_toNat, ctr_succ_toNat]
    omega
  rw [← hframe] at hst
  obtain ⟨f, rfl⟩ : ∃ f, u = { s.afterProtect with fin := f } := ⟨_, hu⟩
  refine exec_check_of_not_accepted ?_ ?_ ?_ hst rfl
  exacts [hv, hc, hl]

/-- Settles O45: the frame is as intact as before, and `CTR` is now its counter. -/
theorem acceptedFrameAgainIsRepeated : Obligations.AcceptedFrameAgainIsRepeated := by
  intro s t hv hc h hacc
  obtain ⟨-, rfl⟩ | ⟨hl, rfl⟩ := exec_check_done_cases hv hc h
  · simp at hacc
  · rw [State.afterCheck_result] at hacc
    obtain ⟨-, -, hok, hlost⟩ := frameStatus_rows s.tbl s.act s.ctr (s.finFrame (actN s.act))
    obtain ⟨-, hrepeated, -⟩ := frameStatus_rows s.tbl s.act s.rxCtr (s.finFrame (actN s.act))
    have hgood : Intact s.tbl s.act (s.finFrame (actN s.act)) :=
      hacc.elim (fun hst => (hok.mp hst).1) fun hst => (hlost.mp hst).1
    have hzero : (s.rxCtr - s.rxCtr).toNat = 0 := by rw [sub_self]; rfl
    rw [State.afterCheck_eq, if_pos hacc]
    refine exec_check_of_not_accepted ?_ ?_ ?_ (hrepeated.mpr ⟨hgood, hzero⟩) rfl
    exacts [hv, hc, hl]

/-- Settles O55: the direct form of the integrity comparison, and the row of the distance. -/
theorem integrityHasItsDirectForm : Obligations.IntegrityHasItsDirectForm := by
  intro s hv hc hlegal hdisj hl rx rc idWrong
  have hrx : rx.length = actN s.act := s.finFrame_length _
  have hintact : Intact s.tbl s.act rx ↔ byteAt rx (actCrcByte s.act) = p11Crc s.tbl s.act rx ∧ ¬ idWrong := by
    rw [intact_iff_direct hlegal hdisj hrx, not_and_not_right]
    rfl
  obtain ⟨herror, -⟩ := frameStatus_rows s.tbl s.act s.ctr rx
  rw [hintact, nibble_sub_toNat, not_and_or, not_not, or_assoc] at herror
  refine ⟨⟨_, exec_check_of_ready hv hc hl, ?_⟩, fun hwrong => exec_check_of_not_accepted hv hc hl ?_ rfl⟩
  · rw [State.afterCheck_result]
    exact herror
  · exact herror.mpr (.inr (.inl hwrong))

end Sys2Proof.Machine
end

section
/-! PROOFS. The exceptions (60_exceptions.md): which failures each command can raise (R236), what an illegal command word
and an idle step do (R233, R244), and the numbers the host reads for the codes (R231). -/

namespace Sys2Proof.Machine

variable {s t : State} {rest : List HostEvent} {w : Word} {r : Reg} {e : ErrCode} {frameMax : Nat}

/-! ### Illegal words and idle steps -/

theorem State.command_of_illegal {x : IllegalWord} (hw : decode w = .error x) :
    s.command w = .next (s.raise .illegalCommand) := by
  rw [State.command, hw]

/-- Settles O6: the write hands the word to the command port, which fails with `raise`. -/
theorem stepOnIllegalWordRaises : Obligations.StepOnIllegalWordRaises := by
  intro s w x rest hs hw
  rw [step_of_write hs, State.portWrite_cmd, State.command_of_illegal hw]
  rfl

/-- Settles O7: with an empty stream the host port takes no event. -/
theorem idleStepKeepsAllState : Obligations.IdleStepKeepsAllState := by
  intro s hs
  rw [step, State.hostStep, hs]

/-! ### The codes as numbers -/

theorem step_of_readReg (hs : s.script = .access (.read (regOffset r) 4) :: rest) (hr : s.regValue r = some w) :
    step s = .next { s with script := rest, resp := .word w } := by
  rw [step_of_read hs, State.portRead_reg hr]

/-- R231: the outcomes are numbered in the order of the table. -/
theorem errCode_numbered (e : ErrCode) : (e, ((errCode e).setWidth 32).toNat) ∈
    [ (ErrCode.noError, 0), (.illegalCommand, 1), (.noTable, 2), (.noConfig, 3), (.length, 4), (.cfgDataLen, 5),
      (.cfgRange, 6), (.cfgCrcAlign, 7), (.cfgBounds, 8), (.cfgCtrBit, 9) ] := by
  cases e <;> decide

/-- 10_state.md R26: the statuses are numbered in the order of the list there. -/
theorem statusCode_numbered (st : CheckStatus) : (st, ((statusCode st).setWidth 32).toNat) ∈
    [ (CheckStatus.noNewData, 0), (.error, 1), (.wrongSeq, 2), (.wrongInput, 3), (.repeated, 4), (.okSomeLost, 5),
      (.ok, 6) ] := by
  cases st <;> decide

/-- Settles O12: 0x008 is the offset of `ERR` and 0x010 that of `RESULT`. -/
theorem codesReadAsNumbered : Obligations.CodesReadAsNumbered := fun s _ =>
  ⟨fun hs => ⟨_, step_of_readReg (r := .err) hs rfl, errCode_numbered s.err⟩,
    fun hs => ⟨_, step_of_readReg (r := .result) hs rfl, statusCode_numbered s.result⟩⟩

/-! ### What each command can raise -/

/-- 41_config.md R153: the five failures of `validate()`. -/
theorem mem_of_validate {c : Staging} (h : validate frameMax c = some e) :
    e ∈ [ErrCode.cfgDataLen, .cfgRange, .cfgCrcAlign, .cfgBounds, .cfgCtrBit] := by
  rw [validate_eq_toNat] at h
  split_ifs at h <;> cases h <;> decide

/-- Settles O50: the code of each way a command can end is in its row. -/
theorem eachCommandRaisesOnlyItsFailures : Obligations.EachCommandRaisesOnlyItsFailures := by
  refine ⟨fun s t i h => ?_, fun s t w x hw h => ?_⟩
  · cases i with
    | gentbl =>
      obtain rfl := execGentbl_cases h
      simp
    | tblrd idx => obtain ⟨-, rfl⟩ | ⟨-, rfl⟩ := execTblrd_cases h <;> simp
    | crc8 start first => obtain ⟨-, rfl⟩ | ⟨-, -, rfl⟩ | ⟨-, -, rfl⟩ := execCrc8_cases first h <;> simp
    | config =>
      obtain ⟨e, he, rfl⟩ | ⟨-, rfl⟩ := execConfig_cases h
      · exact List.mem_cons_of_mem _ (mem_of_validate he)
      · simp
    | protect => obtain ⟨-, rfl⟩ | ⟨-, -, rfl⟩ | ⟨-, -, -, rfl⟩ | ⟨-, -, -, rfl⟩ := execProtect_cases h <;> simp
    | protect64 => obtain ⟨-, rfl⟩ | ⟨-, -, rfl⟩ | ⟨-, -, -, rfl⟩ | ⟨-, -, -, rfl⟩ := execProtect64_cases h <;> simp
    | check => obtain ⟨-, rfl⟩ | ⟨-, -, rfl⟩ | ⟨-, -, -, rfl⟩ | ⟨-, -, -, rfl⟩ := execCheck_cases h <;> simp
  · rw [State.command_of_illegal hw] at h
    cases h
    rfl

end Sys2Proof.Machine
end

section
/-! PROOFS. Reset (70_reset_and_hazards.md R260): every element whose reset value 10_state.md R35 states holds it after
a reset, whichever reset it is, and a reset event leaves the rest of the host's stream to come. -/

namespace Sys2Proof.Machine

/-- R35: no reset number and no stream changes a stated reset value. -/
theorem afterReset_atReset (k : Nat) (script : List HostEvent) : (State.afterReset k script).AtReset where
  tblValid := rfl
  cfgValid := rfl
  resValid := rfl
  ctr := rfl
  cfg := rfl
  finLen := rfl
  foutLen := rfl
  v64InLo := rfl
  v64InHi := rfl
  v64OutLo := rfl
  v64OutHi := rfl
  dout := rfl
  result := rfl
  err := rfl

theorem step_of_reset {s : State} {rest : List HostEvent} (h : s.script = .reset :: rest) :
    step s = .next (State.afterReset (s.resets + 1) rest) :=
  step_of_script h

/-- Settles O18: the initial state is reset number 0, and a reset event leads to the state of the next reset. -/
theorem resetGivesTheStatedValues : Obligations.ResetGivesTheStatedValues :=
  ⟨afterReset_atReset 0 [], fun s rest hs => ⟨_, step_of_reset hs, afterReset_atReset (s.resets + 1) rest, rfl⟩⟩

end Sys2Proof.Machine
end
